-- ==== Sys2Proof/Word.lean ====
section
/-! DEFINITION. The machine's word and byte. -/

namespace Sys2Proof

/-- A host register, an address, a length or a frequency: 32 bits (R7). -/
abbrev Word := BitVec 32

/-- The smallest addressable unit of system memory (R60). -/
abbrev Byte := BitVec 8

end Sys2Proof
end

