-- ==== Sys2Proof/Config.lean ====
section
/-! DEFINITION. What one built SPISEQ fixes (the parameters of R6), the downstream values those
parameters speak about (R41, R43), and the free values of the model. -/

namespace Sys2Proof

/-- The hardware generation `GEN` (R2). -/
inductive Gen where
  | gen1
  | gen2
  | gen3
  deriving DecidableEq, Repr, Inhabited

/-- The fixed divisor set `DIVISORS` (R13). -/
inductive Divisor where
  | d2 | d4 | d8 | d16 | d32 | d64 | d128 | d256
  deriving DecidableEq, Repr, Inhabited

/-- The control image `ctl` of the peripheral (R41). A field the generation lacks is a place that
no micro-program of that generation writes. -/
structure Ctl where
  en      : BitVec 1
  cpol    : BitVec 1
  cpha    : BitVec 1
  lsbf    : BitVec 1
  br      : BitVec 3
  /-- GEN1 width field. -/
  ws      : BitVec 1
  /-- GEN2 width field. -/
  ds      : BitVec 4
  /-- GEN2 receive FIFO threshold. -/
  fth     : BitVec 1
  /-- GEN3 width field. -/
  dsize   : BitVec 5
  /-- GEN3 only. -/
  start   : BitVec 1
  /-- GEN3 only. -/
  susp    : BitVec 1
  txdmaen : BitVec 1
  rxdmaen : BitVec 1
  /-- The fields of `INIT_EXTRA`, by number, rising, no number twice. DESIGN CHOICE: R41 gives them no
  width, and the model holds each as a 32-bit value (notes/assumptions/28.md). -/
  extra   : List (Nat × Word)
  deriving DecidableEq, Repr, Inhabited

/-- One assignment of a `FieldWrite`, or one field and value of a `FieldRead` (R11, R41). -/
inductive FieldSet where
  | en      (v : BitVec 1)
  | cpol    (v : BitVec 1)
  | cpha    (v : BitVec 1)
  | lsbf    (v : BitVec 1)
  | br      (v : BitVec 3)
  | ws      (v : BitVec 1)
  | ds      (v : BitVec 4)
  | fth     (v : BitVec 1)
  | dsize   (v : BitVec 5)
  | start   (v : BitVec 1)
  | susp    (v : BitVec 1)
  | txdmaen (v : BitVec 1)
  | rxdmaen (v : BitVec 1)
  | extra   (field : Nat) (v : Word)
  deriving DecidableEq, Repr

/-- The flags one status sample returns (R43). -/
structure Sample where
  ovr   : Bool
  fre   : Bool
  modf  : Bool
  crce  : Bool
  txrdy : Bool
  rxrdy : Bool
  /-- GEN1 and GEN2. -/
  bsy   : Bool
  /-- GEN3. -/
  tc    : Bool
  deriving DecidableEq, Repr, Inhabited

/-- `BRENC`: the 3-bit code of each divisor (R42). -/
structure BrEnc where
  d2   : BitVec 3
  d4   : BitVec 3
  d8   : BitVec 3
  d16  : BitVec 3
  d32  : BitVec 3
  d64  : BitVec 3
  d128 : BitVec 3
  d256 : BitVec 3
  deriving DecidableEq, Repr, Inhabited

/-- `MODEENC`: for each one-bit mode field, whether its downstream value is the bit or its
complement, the only two bijections of one bit (R42; notes/assumptions/17.md). -/
structure ModeEnc where
  invCpol : BitVec 1
  invCpha : BitVec 1
  invLsbf : BitVec 1
  deriving DecidableEq, Repr, Inhabited

/-- `WIDTHENC` (R152): the code of a width where it is not the default one, and the two
FIFO-threshold codes (R153). -/
structure WidthEnc where
  overrides : List (Nat × BitVec 5)
  quarter   : BitVec 1
  half      : BitVec 1
  deriving DecidableEq, Repr, Inhabited

/-- One row of `FIELDMAP`: where a downstream field or flag lies (R6). No rule reads it. The form of a
row is a DESIGN CHOICE (notes/assumptions/30.md). -/
structure Place where
  field : String
  reg   : Word
  hi    : Nat
  lo    : Nat
  deriving DecidableEq, Repr, Inhabited

/-- The parameters of R6. They stand in State, so that every statement holds for every value of
them; no step changes them. -/
structure Params where
  gen            : Gen
  /-- `SUBVAR`; no rule reads it (R2). That it is a number is a DESIGN CHOICE
  (notes/assumptions/30.md). -/
  subvar         : Nat
  wGen2Min       : Nat
  wGen2Max       : Nat
  widthEnc       : WidthEnc
  brEnc          : BrEnc
  modeEnc        : ModeEnc
  /-- `FIELDMAP`; no rule reads it. -/
  fieldMap       : List Place
  /-- `IFCR_INIT`. Its 32 bits are a DESIGN CHOICE (notes/assumptions/30.md). -/
  ifcrInit       : Word
  /-- `INIT_EXTRA` of this `GEN`: one list of field writes per group. -/
  initExtra      : List (List (Nat × Word))
  /-- `PERIPH_RESET`. -/
  periphReset    : Ctl
  txdrAddr       : Word
  rxdrAddr       : Word
  /-- `TX_REQ`. DESIGN CHOICE: R6 and R7 give the request-line identifiers no width, and the model
  makes each a 32-bit value (notes/assumptions/30.md). -/
  txReq          : Word
  /-- `RX_REQ`, of the same width by the same choice. -/
  rxReq          : Word
  startEveryWord : Bool
  /-- `HOST_BASE`: host register `off` stands at bus address `HOST_BASE + off` (R21). -/
  hostBase       : Word
  deriving DecidableEq, Repr, Inhabited

/-- The code `BRENC` gives a divisor. -/
def BrEnc.code (b : BrEnc) : Divisor → BitVec 3
  | .d2 => b.d2
  | .d4 => b.d4
  | .d8 => b.d8
  | .d16 => b.d16
  | .d32 => b.d32
  | .d64 => b.d64
  | .d128 => b.d128
  | .d256 => b.d256

/-- The default `BRENC`, `log2(d) - 1` (R42, R120). -/
def BrEnc.default : BrEnc := ⟨0, 1, 2, 3, 4, 5, 6, 7⟩

namespace Config

/-- Free value: the n-th status sample the peripheral answers when the environment has queued none
(R40; notes/assumptions/2.md). -/
opaque freeSample : Nat → Sample

/-- Free value: the n-th receive-data answer (R40; notes/assumptions/2.md). -/
opaque freeData : Nat → Word

/-- Free value: the clock frequency `K` the clock collaborator answers (R268;
notes/assumptions/2.md). -/
opaque freeClock : Nat → Word

/-- Free value: which of the stores that race with it a host's memory read sees (R77;
notes/assumptions/27.md). -/
opaque freePick : Nat → Nat

/-- Free value: which of `SEQ` and the DMA channels takes the next turn where nothing is scheduled, as
a number that `agentTurn` reads (R304; notes/assumptions/1.md). -/
opaque freeTurn : Nat → Nat

/-- Free value: the turns that `SEQ` and the DMA channels take between two polls of a waiting host
where none are scheduled (R304; notes/assumptions/21.md). -/
opaque freeTurns : Nat → List Nat

/-- Free value: the unknown control image before INIT's `CER` and after DEINIT's `CD` (R39, R126;
notes/assumptions/3.md). -/
opaque freeCtl : Nat → Ctl

/-- Open parameters of R6 to which the spec gives no value (notes/assumptions/4.md). -/
opaque periphReset : Ctl
opaque txdrAddr : Word
opaque rxdrAddr : Word
opaque txReq : Word
opaque rxReq : Word
opaque hostBase : Word
opaque subvar : Nat
opaque fieldMap : List Place

/-- A block of generation `g` whose parameters take the defaults of R6 where R6 has one, the open
constants above where it has none, and an empty `INIT_EXTRA` (the convention of
95_test_vectors.md). -/
def defaults (g : Gen) : Params where
  gen := g
  subvar := subvar
  wGen2Min := 4
  wGen2Max := 16
  widthEnc := { overrides := [], quarter := 1, half := 0 }
  brEnc := BrEnc.default
  modeEnc := { invCpol := 0, invCpha := 0, invLsbf := 0 }
  fieldMap := fieldMap
  ifcrInit := 0xFFFFFFFF#32
  initExtra := []
  periphReset := periphReset
  txdrAddr := txdrAddr
  rxdrAddr := rxdrAddr
  txReq := txReq
  rxReq := rxReq
  startEveryWord := true
  hostBase := hostBase

/-- The block that `State.reset` is: GEN2. DESIGN CHOICE, unsafe (notes/assumptions/4.md): the spec
leaves `GEN` to the builder, so no statement rests on it. -/
def built : Params := defaults .gen2

end Config

end Sys2Proof
end

