-- ==== Sys2Proof/Syntax.lean ====
section
/-! DEFINITION. The commands of SPISEQ: one constructor per row of spec/opcode_table.json (R93). -/

namespace Sys2Proof

/-- A command. `n` is the width operand of format W, `t` and `r` the two bits of format D (R91,
R92). -/
inductive Instr where
  | init
  | deinit
  | setConfig
  | getConfig
  | setWidth (n : Nat)
  | flush
  | blkWrite (n : Nat)
  | blkRead (n : Nat)
  | blkXfer (n : Nat)
  | blkXferIp (n : Nat)
  | dmaWrite (n : Nat)
  | dmaRead (n : Nat)
  | dmaXfer (n : Nat)
  | dmaXferIp (n : Nat)
  | abort
  | enSet
  | enClr
  | drain
  | poll
  | dmaen (t r : BitVec 1)
  | finish
  deriving DecidableEq, Repr

/-- The width operand of a format-W command (R91, R93). -/
def Instr.width : Instr → Option Nat
  | .setWidth n | .blkWrite n | .blkRead n | .blkXfer n | .blkXferIp n
  | .dmaWrite n | .dmaRead n | .dmaXfer n | .dmaXferIp n => some n
  | .init | .deinit | .setConfig | .getConfig | .flush | .abort | .enSet | .enClr | .drain
  | .poll | .dmaen _ _ | .finish => none

end Sys2Proof
end

