-- ==== Sys2Proof/WellFormed.lean ====
section
/-! DEFINITION. When a command is one that a command word can spell. -/

namespace Sys2Proof

/-- The width operand, if the format has one, fits the six bits `w[13:8]` (R92). Which of the 64 values
a generation accepts is an acceptance check (R97 (d)), not a matter of form. -/
abbrev Instr.wf (i : Instr) : Prop := i.width.getD 0 < 64

end Sys2Proof
end

