-- ==== Sys2Proof/Decode.lean ====
section
/-! DEFINITION. Command words: the decoder (R90 to R93, R97 (a) and (b), R101), the encoder, and the
host's view of the decoder. -/

namespace Sys2Proof

/-- The three formats of R91. -/
inductive Format where
  /-- No operand. -/
  | n
  /-- A width in bits 13:8. -/
  | w
  /-- `T` in bit 8, `R` in bit 9. -/
  | d
  deriving DecidableEq, Repr

/-- Why a word is no command; both are rejected as ILLEGAL. -/
inductive DecodeError where
  /-- R97 (a): `OP` is one of the reserved values of R101. -/
  | reservedOpcode
  /-- R97 (b): a bit that R91 reserves for the format is 1. -/
  | reservedBits
  deriving DecidableEq, Repr

/-- The opcode map of R93, read from opcode to command: the command of opcode `op` with width `n`
and enables `t`, `r`, of which its format takes what it has. -/
def instrOf (op : BitVec 8) (n : Nat) (t r : BitVec 1) : Option Instr :=
  match op with
  | 0x01#8 => some .init
  | 0x02#8 => some .deinit
  | 0x03#8 => some .setConfig
  | 0x04#8 => some .getConfig
  | 0x05#8 => some (.setWidth n)
  | 0x06#8 => some .flush
  | 0x10#8 => some (.blkWrite n)
  | 0x11#8 => some (.blkRead n)
  | 0x12#8 => some (.blkXfer n)
  | 0x13#8 => some (.blkXferIp n)
  | 0x20#8 => some (.dmaWrite n)
  | 0x21#8 => some (.dmaRead n)
  | 0x22#8 => some (.dmaXfer n)
  | 0x23#8 => some (.dmaXferIp n)
  | 0x30#8 => some .abort
  | 0x40#8 => some .enSet
  | 0x41#8 => some .enClr
  | 0x42#8 => some .drain
  | 0x43#8 => some .poll
  | 0x44#8 => some (.dmaen t r)
  | 0x45#8 => some .finish
  | _ => none

/-- The format column of R93. -/
def Instr.format : Instr → Format
  | .setWidth _ | .blkWrite _ | .blkRead _ | .blkXfer _ | .blkXferIp _
  | .dmaWrite _ | .dmaRead _ | .dmaXfer _ | .dmaXferIp _ => .w
  | .dmaen _ _ => .d
  | .init | .deinit | .setConfig | .getConfig | .flush | .abort | .enSet | .enClr | .drain
  | .poll | .finish => .n

/-- The bits R91 shows as 0 for a format. -/
def Format.reserved : Format → Word
  | .n => 0xFFFFFF00#32
  | .w => 0xFFFFC000#32
  | .d => 0xFFFFFC00#32

/-- `OP = w[7:0]`. -/
def opField (w : Word) : BitVec 8 := w.extractLsb' 0 8

/-- `W = w[13:8]`, zero-extended to a number (R92). -/
def widthField (w : Word) : Nat := (w.extractLsb' 8 6).toNat

/-- `T = w[8]`. -/
def tField (w : Word) : BitVec 1 := w.extractLsb' 8 1

/-- `R = w[9]`. -/
def rField (w : Word) : BitVec 1 := w.extractLsb' 9 1

/-- The decoder of R90: read `OP`, look up its format, then check the remaining bits. -/
def decode (w : Word) : Except DecodeError Instr :=
  match instrOf (opField w) (widthField w) (tField w) (rField w) with
  | none => .error .reservedOpcode
  | some i => if w &&& i.format.reserved = 0 then .ok i else .error .reservedBits

/-- The `OP` column of R93. -/
def Instr.opcode : Instr → BitVec 8
  | .init => 0x01
  | .deinit => 0x02
  | .setConfig => 0x03
  | .getConfig => 0x04
  | .setWidth _ => 0x05
  | .flush => 0x06
  | .blkWrite _ => 0x10
  | .blkRead _ => 0x11
  | .blkXfer _ => 0x12
  | .blkXferIp _ => 0x13
  | .dmaWrite _ => 0x20
  | .dmaRead _ => 0x21
  | .dmaXfer _ => 0x22
  | .dmaXferIp _ => 0x23
  | .abort => 0x30
  | .enSet => 0x40
  | .enClr => 0x41
  | .drain => 0x42
  | .poll => 0x43
  | .dmaen _ _ => 0x44
  | .finish => 0x45

/-- The operand bits of a command word, in place (R91). -/
def Instr.operandBits : Instr → Word
  | .setWidth n | .blkWrite n | .blkRead n | .blkXfer n | .blkXferIp n
  | .dmaWrite n | .dmaRead n | .dmaXfer n | .dmaXferIp n => BitVec.ofNat 32 n <<< 8
  | .dmaen t r => (t.setWidth 32 <<< 8) ||| (r.setWidth 32 <<< 9)
  | .init | .deinit | .setConfig | .getConfig | .flush | .abort | .enSet | .enClr | .drain
  | .poll | .finish => 0

/-- The command word of a well-formed command: `OP | (W << 8)`, `OP | (T << 8) | (R << 9)` or `OP`
(R103). -/
def encode (i : Instr) : Word := i.opcode.setWidth 32 ||| i.operandBits

/-- The instruction the decoder reads from a command whose bits, numbered as
spec/opcode_table.json numbers them, are `w`. A command is one 32-bit word (R90). -/
def decodeTableWord (_nbits w : Nat) : Option Instr :=
  match decode (BitVec.ofNat 32 w) with
  | .ok i => some i
  | .error _ => none

end Sys2Proof
end

