-- ==== Sys2Proof/Machine/State.lean ====
section
/-! DEFINITION. The state of SPISEQ and of the collaborators a model keeps with it (10_state.md,
R211), the reasons a step can stop, and the state after reset (R48, R281). -/

namespace Sys2Proof.Machine

/-- `STATUS.STATE` (R24). -/
inductive Fsm where
  | uninit
  | idle
  | busy
  | waitDma
  | fatal
  deriving DecidableEq, Repr

/-- `STATUS.RESULT` (R250). -/
inductive ResultCode where
  | ok
  | overrun
  | framing
  | modeFault
  | crc
  | illegal
  | align
  | nochan
  | aborted
  | fatal
  deriving DecidableEq, Repr

/-- `STATUS.FCAUSE` (R251). -/
inductive FCause where
  | none
  | freqZero
  | freqAboveClock
  | lenMismatch
  deriving DecidableEq, Repr

/-- The error class of a status sample (R173). -/
inductive ErrClass where
  | none
  | overrun
  | framing
  | modeFault
  | crc
  deriving DecidableEq, Repr

/-- The two DMA channels (R20). -/
inductive Channel where
  | tx
  | rx
  deriving DecidableEq, Repr

/-- The pin roles (R11). -/
inductive Pin where
  | sck
  | mosi
  | miso
  deriving DecidableEq, Repr

/-- Labels of `SetWordWidth` (R155 to R158). `w0` is its start: W1.0, W2.0 or W3.0 by generation,
or no step where the width does not change. -/
inductive WidthLabel where
  | w0
  | w11 | w12
  | w21 | w22
  | w31 | w32 | w33 | w34 | w35
  deriving DecidableEq, Repr

/-- Labels of `Drain` (R170). -/
inductive DrainLabel where
  | dr0 | dr1
  deriving DecidableEq, Repr

/-- Labels of `FinishDma` (R209). -/
inductive FinishLabel where
  | fd0 | fd1 | fd2
  deriving DecidableEq, Repr

/-- Labels of INIT (R123); `i3 g` is the write of group `g` of `INIT_EXTRA`. -/
inductive InitLabel where
  | i0 | i1 | i2
  | i3 (g : Nat)
  | i4 | i5 | i6 | i7 | i8
  deriving DecidableEq, Repr

/-- Labels of DEINIT (R126). -/
inductive DeinitLabel where
  | di0 | di1 | di2 | di3 | di4
  deriving DecidableEq, Repr

/-- Labels of SET_CONFIG (R128). -/
inductive SetConfigLabel where
  | s0 | s1 | s2 | s3
  deriving DecidableEq, Repr

/-- Labels of GET_CONFIG (R131). -/
inductive GetConfigLabel where
  | g0 | g1
  deriving DecidableEq, Repr

/-- Labels of SET_WIDTH (R159); SW0 is the inlined width change. -/
inductive SetWidthLabel where
  | sw0 (w : WidthLabel)
  | sw1
  deriving DecidableEq, Repr

/-- Labels of the blocking commands (R177, R178), with `TransferWord` (R175) inlined at L3, the
drain at B1 and the width change at B2. `fin` is END. -/
inductive BlkLabel where
  | b0
  | b1 (d : DrainLabel)
  | b2 (w : WidthLabel)
  | l0 | l1 | l2
  | t0 | t1 | t2 | t3 | t4
  | l4 | l5
  | fin
  deriving DecidableEq, Repr

/-- Labels of the DMA commands (R200, R202), with the width change inlined at M1, the drain at M3
and `FinishDma` at M12. -/
inductive DmaLabel where
  | m0
  | m1 (w : WidthLabel)
  | m2
  | m3 (d : DrainLabel)
  | m4 | m5 | m6 | m7 | m8 | m9 | m10 | m11
  | m12 (f : FinishLabel)
  | m13
  deriving DecidableEq, Repr

/-- Labels of ABORT (R216). -/
inductive AbortLabel where
  | a0 | a1 | a2 | a3 | a4
  deriving DecidableEq, Repr

/-- A step of a micro-program: what `mpc` names (R33). -/
inductive Label where
  | init (l : InitLabel)
  | deinit (l : DeinitLabel)
  | setConfig (l : SetConfigLabel)
  | getConfig (l : GetConfigLabel)
  | setWidth (l : SetWidthLabel)
  /-- FLUSH's only label, F0 (R132). -/
  | f0
  | blk (l : BlkLabel)
  | dma (l : DmaLabel)
  | abort (l : AbortLabel)
  /-- EN_SET (R230). -/
  | es0 | es1
  /-- EN_CLR (R231). -/
  | ec0 | ec1
  /-- DRAIN (R232). -/
  | dn0 (d : DrainLabel) | dn1
  /-- POLL (R233). -/
  | q0 | q1
  /-- DMAEN (R234). -/
  | de0 | de1
  /-- FINISH (R235). -/
  | fn0 (f : FinishLabel) | fn1
  deriving DecidableEq, Repr

/-- The direction of a DMA transfer (R205). -/
inductive Dir where
  | p2m
  | m2p
  deriving DecidableEq, Repr

/-- The memory side of a DMA transfer: a first address, or the repeated constant `CONST` with its
`value` (R205). -/
inductive MemSide where
  | addr (a : Word)
  | const (value : Word)
  deriving DecidableEq, Repr

/-- The options of a DMA transfer: always the collaborator's default (R205). -/
inductive Options where
  | default
  deriving DecidableEq, Repr

/-- A DMA descriptor (R205). The 32 bits of `request` are a DESIGN CHOICE
(notes/assumptions/30.md). -/
structure Desc where
  dir     : Dir
  periph  : Word
  mem     : MemSide
  count   : Word
  esize   : Nat
  request : Word
  options : Options
  deriving DecidableEq, Repr

/-- A transfer in flight on a DMA channel (R211): its descriptor, and the elements the channel has
moved, latest first. -/
structure Flight where
  desc  : Desc
  moved : List Nat
  deriving DecidableEq, Repr

/-- The events of R11, one per primitive. -/
inductive Event where
  | fw (fs : List FieldSet)
  | rwIfcr (v : Word)
  | fr (fs : List FieldSet)
  | ss (s : Sample)
  | dw (sz : Nat) (v : Word)
  | dr (sz : Nat) (v : Word)
  | mr (a : Word) (sz : Nat) (v : Word)
  | mw (a : Word) (sz : Nat) (v : Word)
  | ds (ch : Channel) (d : Desc)
  | dh (ch : Channel)
  | cer
  | cf (k : Word)
  | cd
  | pd (p : Pin)
  deriving DecidableEq, Repr

/-- One entry of the journal: an event of the trace, or a step of another agent (R36;
notes/assumptions/18.md). -/
inductive Entry where
  | event (e : Event)
  | hostWrite (off : BitVec 12) (v : Word)
  | hostRead (off : BitVec 12) (v : Word)
  | memWrite (a : Word) (sz : Nat) (v : Word)
  | memRead (a : Word) (sz : Nat) (v : Word)
  /-- A DMA channel moved element `k`, whose value was `v`. -/
  | dmaMove (ch : Channel) (k : Nat) (v : Word)
  /-- Channel `ch` signalled completion. -/
  | completion (ch : Channel)
  deriving DecidableEq, Repr

/-- One step of one agent, or an input from the system: what the schedule lists (R20, R303;
notes/assumptions/1.md). -/
inductive Turn where
  /-- `SEQ` takes its next step, if it has one. -/
  | seq
  /-- `HOST` writes `v`, `size` bytes wide, at `HOST_BASE + off`. -/
  | hostWrite (off : BitVec 12) (size : Nat) (v : Word)
  /-- `HOST` reads `size` bytes at `HOST_BASE + off`. -/
  | hostRead (off : BitVec 12) (size : Nat)
  /-- `HOST` polls `STATUS` until `DONE` is 1 (the `wait` of R104). -/
  | hostWait
  /-- `HOST`, or another bus master, writes system memory. -/
  | memWrite (a : Word) (size : Nat) (v : Word)
  /-- `HOST`, or another bus master, reads system memory. -/
  | memRead (a : Word) (size : Nat)
  /-- A DMA channel moves element `k` of its transfer. -/
  | dmaMove (ch : Channel) (k : Nat)
  /-- A DMA channel signals completion. -/
  | dmaDone (ch : Channel)
  /-- The system resets the block (R280). -/
  | reset
  deriving DecidableEq, Repr

/-- Operand and output registers (R21). `CMD` keeps no value (R22), `STATUS` is computed from
`Status` and `Join` (R23), `WIDTH` is `curWidth` (R37). The read-as-zero bits of `CFG` and `BIND`
are not stored (R27, R29). -/
structure HostRegs where
  cfg     : BitVec 3
  freq    : Word
  bind    : BitVec 6
  txaddr  : Word
  rxaddr  : Word
  txlen   : Word
  rxlen   : Word
  kclk    : Word
  rdcfg   : Word
  rdfreq  : Word
  xcount  : Word
  ssample : Word
  deriving DecidableEq, Repr

/-- The fields of `STATUS` that are not join state (R23). -/
structure Status where
  fsm    : Fsm
  done   : Bool
  lost   : Bool
  result : ResultCode
  fcause : FCause
  deriving DecidableEq, Repr

/-- The loop variables (R33), and the divisor `dv` that INIT and SET_CONFIG carry from one step to
the next (R123, R128; notes/assumptions/16.md). -/
structure Vars where
  i  : Word
  n  : Word
  tx : Word
  rx : Word
  s  : Sample
  e  : ErrClass
  dv : Divisor
  deriving DecidableEq, Repr

/-- The DMA join state (R34). -/
structure Join where
  txsub  : Bool
  rxsub  : Bool
  txdone : Bool
  rxdone : Bool
  deriving DecidableEq, Repr

/-- The latched command (R35). -/
structure Latch where
  op : BitVec 8
  n  : Nat
  sz : Nat
  t  : BitVec 1
  r  : BitVec 1
  deriving DecidableEq, Repr

/-- `pins_owned` (R46). -/
structure Pins where
  sck  : Bool
  mosi : Bool
  miso : Bool
  deriving DecidableEq, Repr

/-- System memory (R60 (3)): the bytes that differ from what an unlisted address reads as, addresses
strictly rising. -/
abbrev Memory := List Host.Cell

/-- A store to system memory, as the host may come to see it (R75, R77). -/
structure Stored where
  addr  : Word
  size  : Nat
  value : Word
  /-- Made by the host, or another bus master, and not by `SEQ` or a DMA channel. -/
  own   : Bool
  deriving DecidableEq, Repr

/-- What the host knows of system memory (R75, R77): the memory whose stores it is sure to see, and
the stores since, the oldest first, of which those of `SEQ` and the DMA channels race with its reads.
The whole of it is `mem` (notes/assumptions/27.md). -/
structure HostView where
  seen  : Memory
  later : List Stored
  deriving DecidableEq, Repr

/-- The environment, the model's own part of the state: which agent moves next, what the peripheral
and the clock collaborator answer, what a racing host sees, and how many free values have been drawn
(notes/assumptions/1.md, 2.md, 21.md, 27.md). -/
structure Env where
  /-- The turns to come, the next one first. -/
  agenda  : List Turn
  /-- The turns that follow once `agenda` is empty, again and again. Where it is empty too, the next
  turn is a free value: no agent is sure of one (R304). -/
  rest    : List Turn
  /-- What the other agents do while the host waits: the turns after each poll that finds `DONE` = 0,
  the next such list first (R20, R104). Where it is empty they are `rest`, and else free. -/
  between : List (List Turn)
  /-- The peripheral's coming status samples. -/
  samples : List Sample
  /-- The peripheral's coming receive-data values. -/
  reads   : List Word
  /-- The clock collaborator's coming answers. -/
  clocks  : List Word
  /-- For each coming read of memory by the host, which of the later stores of its view it sees: bit
  `j` for the `j`-th. -/
  picks   : List Nat
  /-- The number of the next free value. -/
  draws   : Nat
  deriving DecidableEq, Repr

/-- Everything the spec gives the machine. -/
structure State where
  /-- The parameters of R6. -/
  params   : Params
  regs     : HostRegs
  status   : Status
  /-- `CUR_WIDTH`, read as `WIDTH` (R31, R37). -/
  curWidth : Nat
  /-- `mpc` (R33). -/
  mpc      : Option Label
  vars     : Vars
  join     : Join
  latch    : Latch
  /-- The control image (R41). -/
  ctl      : Ctl
  /-- `clk_on` (R46). -/
  clkOn    : Bool
  pins     : Pins
  /-- The transfer in flight on channel TX, if any (R211). -/
  txch     : Option Flight
  /-- The transfer in flight on channel RX, if any (R211). -/
  rxch     : Option Flight
  mem      : Memory
  /-- What the host is to see of `mem` (R75, R77). -/
  view     : HostView
  /-- The event trace with the other agents' steps, in order (R36). -/
  journal  : List Entry
  env      : Env
  deriving DecidableEq, Repr

/-- Reasons to stop in the middle of a run. -/
inductive Fault where
  /-- `SEQ` is to take a step and `mpc` names a label that is not of the latched command. Raised by
  every command's meaning; no run from reset reaches such a state (Safety.lean's `Inv`). Safe: the
  model stops (notes/assumptions/13.md). -/
  | strayLabel
  deriving DecidableEq, Repr

/-- Reasons to refuse a step. -/
inductive Refusal where
  /-- The command has no meaning in this model yet. -/
  | notModelled (mnemonic : String)
  /-- A host access to the register window that is not 32 bits wide and aligned: the model admits no
  such step (R61). Raised by the host's turns. Safe: the model stops (notes/assumptions/14.md). -/
  | hostAccess
  deriving DecidableEq, Repr

/-- The flags all 0: the reset value of `s` (R48). -/
def noFlags : Sample := ⟨false, false, false, false, false, false, false, false⟩

/-- A block with parameters `p` right after power-on reset: the table of R48; the channels idle and
the clock off (R281); the control image unknown, the free value numbered 0. -/
def State.resetWith (p : Params) : State where
  params := p
  regs := ⟨0, 0, 0, 0, 0, 0, 0, 0, 0, 0, 0, 0⟩
  status := ⟨.uninit, false, false, .ok, .none⟩
  curWidth := 0
  mpc := none
  vars := ⟨0, 0, 0, 0, noFlags, .none, .d2⟩
  join := ⟨false, false, false, false⟩
  latch := ⟨0, 0, 0, 0, 0⟩
  ctl := Config.freeCtl 0
  clkOn := false
  pins := ⟨false, false, false⟩
  txch := none
  rxch := none
  mem := []
  view := ⟨[], []⟩
  journal := []
  env := ⟨[], [], [], [], [], [], [], 1⟩

/-- The machine right after reset, for the parameters `Config.built` (notes/assumptions/4.md). -/
def State.reset : State := State.resetWith Config.built

end Sys2Proof.Machine
end

