-- ==== Sys2Proof/Machine/Flags.lean ====
section
/-! DEFINITION. Status samples and the `STATUS` register: which flags a generation has (R43), the
error class of a sample (R173), and how flags are packed into words (R23, R32). -/

namespace Sys2Proof.Machine

/-- A sample as the generation returns it: a flag the generation lacks reads 0 (R32, R43). -/
def sampleOf (g : Gen) (s : Sample) : Sample :=
  match g with
  | .gen1 | .gen2 => { s with tc := false }
  | .gen3 => { s with bsy := false }

/-- `errclass(s)` (R173): the first of overrun, framing, mode fault, CRC. -/
def errclass (s : Sample) : ErrClass :=
  if s.ovr then .overrun
  else if s.fre then .framing
  else if s.modf then .modeFault
  else if s.crce then .crc
  else .none

/-- The result code that reports an error class (R250); `none` reports OK (R233). -/
def ErrClass.result : ErrClass → ResultCode
  | .none => .ok
  | .overrun => .overrun
  | .framing => .framing
  | .modeFault => .modeFault
  | .crc => .crc

/-- `SSAMPLE` of a sample: OVR, FRE, MODF, CRCE, TXRDY, RXRDY, BSY, TC from bit 0 up (R32). -/
def ssampleWord (s : Sample) : Word :=
  0#24 ++ BitVec.ofBool s.tc ++ BitVec.ofBool s.bsy ++ BitVec.ofBool s.rxrdy
    ++ BitVec.ofBool s.txrdy ++ BitVec.ofBool s.crce ++ BitVec.ofBool s.modf
    ++ BitVec.ofBool s.fre ++ BitVec.ofBool s.ovr

/-- The encoding of `STATUS.STATE` (R24). -/
def Fsm.code : Fsm → BitVec 3
  | .uninit => 0
  | .idle => 1
  | .busy => 2
  | .waitDma => 3
  | .fatal => 4

/-- The encoding of `STATUS.RESULT` (R250). -/
def ResultCode.code : ResultCode → BitVec 4
  | .ok => 0
  | .overrun => 1
  | .framing => 2
  | .modeFault => 3
  | .crc => 4
  | .illegal => 5
  | .align => 6
  | .nochan => 7
  | .aborted => 8
  | .fatal => 9

/-- The encoding of `STATUS.FCAUSE` (R251). -/
def FCause.code : FCause → BitVec 4
  | .none => 0
  | .freqZero => 1
  | .freqAboveClock => 2
  | .lenMismatch => 3

/-- The `STATUS` register (R23), from bit 31 down. -/
def statusWord (st : Status) (j : Join) : Word :=
  0#12 ++ BitVec.ofBool j.rxsub ++ BitVec.ofBool j.txsub ++ BitVec.ofBool j.rxdone
    ++ BitVec.ofBool j.txdone ++ st.fcause.code ++ st.result.code ++ 0#3
    ++ BitVec.ofBool st.lost ++ BitVec.ofBool st.done ++ st.fsm.code

/-- `Join()` (R208). -/
def joinHolds (j : Join) : Bool := (j.txdone || !j.txsub) && (j.rxdone || !j.rxsub)

/-- The condition that ends `FinishDma`'s wait: transfer complete on GEN3, not busy elsewhere
(R209). -/
def quiescent (g : Gen) (s : Sample) : Bool :=
  match g with
  | .gen1 | .gen2 => !s.bsy
  | .gen3 => s.tc

end Sys2Proof.Machine
end

