-- ==== Sys2Proof/Machine/Memory.lean ====
section
/-! DEFINITION. System memory: one byte, and the little-endian accesses of R62 built from it. -/

namespace Sys2Proof.Machine

/-- What a byte of system memory that nothing has written reads as. DESIGN CHOICE, unsafe
(notes/assumptions/7.md). -/
def unlistedByte : Byte := 0

/-- The byte at address `a`. -/
def Memory.read : Memory → Nat → Byte
  | [], _ => unlistedByte
  | (k, b) :: m, a => if k = a then b else Memory.read m a

/-- The list without the cell at `a`. -/
def Memory.erase : Memory → Nat → Memory
  | [], _ => []
  | (k, b) :: m, a => if k = a then m else (k, b) :: Memory.erase m a

/-- The list with the cell `(a, v)` in its place. -/
def Memory.insert : Memory → Nat → Byte → Memory
  | [], a, v => [(a, v)]
  | (k, b) :: m, a, v =>
    if a < k then (a, v) :: (k, b) :: m
    else if a = k then (a, v) :: m
    else (k, b) :: Memory.insert m a v

/-- Write the byte `v` at address `a`, keeping the canonical form. -/
def Memory.write (m : Memory) (a : Nat) (v : Byte) : Memory :=
  if v = unlistedByte then m.erase a else m.insert a v

/-- The canonical form: addresses of the 32-bit space, strictly rising, and no cell that holds what
an unlisted address reads as. -/
abbrev Memory.wf (m : Memory) : Prop :=
  m.Pairwise (fun x y => x.1 < y.1) ∧ ∀ c ∈ m, c.1 < 2 ^ 32 ∧ c.2 ≠ unlistedByte

/-- `MemRead(a, sz)` (R62): the unsigned integer of the `sz` bytes from `a` up, the lowest address
the least significant; addresses wrap modulo 2^32 (R9). -/
def Memory.load (m : Memory) (a : Word) : Nat → Nat
  | 0 => 0
  | sz + 1 => (m.read a.toNat).toNat + 256 * Memory.load m (a + 1) sz

/-- `MemWrite(a, sz, v)` (R62): byte `k` of `v` at `a + k`. -/
def Memory.store (m : Memory) (a : Word) : Nat → Nat → Memory
  | 0, _ => m
  | sz + 1, v => Memory.store (m.write a.toNat (BitVec.ofNat 8 v)) (a + 1) sz (v / 256)

/-- Memory after a list of stores, in order. -/
def Memory.storeAll (m : Memory) (ws : List Stored) : Memory :=
  ws.foldl (fun m w => m.store w.addr w.size w.value.toNat) m

/-- The stores a host's read sees: its own, and of the others those whose bit of `pick` is 1 (R77). -/
def visible : Nat → List Stored → List Stored
  | _, [] => []
  | pick, w :: ws =>
    if w.own || pick % 2 == 1 then w :: visible (pick / 2) ws else visible (pick / 2) ws

/-- Memory as a host's read with `pick` sees it: each store that races with the read is seen whole or
not at all (R67, R77). -/
def HostView.shown (v : HostView) (pick : Nat) : Memory := v.seen.storeAll (visible pick v.later)

/-- Memory with every store seen. -/
def HostView.whole (v : HostView) : Memory := v.seen.storeAll v.later

/-- The view after one more store. -/
def HostView.push (v : HostView) (w : Stored) : HostView := { v with later := v.later ++ [w] }

end Sys2Proof.Machine
end

