-- ==== Sys2Proof/Machine/Operands.lean ====
section
/-! DEFINITION. Operands and encodings: fields of the operand registers (R27, R29), widths and their
encodings (R12, R150, R152, R153), the divisor search (R120 to R122), the mode encodings (R42), and
which registers and channels each command needs (R94, R98, R201). -/

namespace Sys2Proof.Machine

/-- `CFG.CPOL` (R27). -/
def HostRegs.cpol (x : HostRegs) : BitVec 1 := x.cfg.extractLsb' 0 1

/-- `CFG.CPHA` (R27). -/
def HostRegs.cpha (x : HostRegs) : BitVec 1 := x.cfg.extractLsb' 1 1

/-- `CFG.LSBF` (R27). -/
def HostRegs.lsbf (x : HostRegs) : BitVec 1 := x.cfg.extractLsb' 2 1

/-- `BIND.SCK`, `BIND.MOSI` and `BIND.MISO` (R29). -/
def HostRegs.ownedPins (x : HostRegs) : Pins :=
  ⟨x.bind.getLsbD 0, x.bind.getLsbD 1, x.bind.getLsbD 2⟩

/-- `BIND.TXCH` (R29). -/
def HostRegs.txchBound (x : HostRegs) : Bool := x.bind.getLsbD 3

/-- `BIND.RXCH` (R29). -/
def HostRegs.rxchBound (x : HostRegs) : Bool := x.bind.getLsbD 4

/-- `BIND.ASYNC` (R29). -/
def HostRegs.async (x : HostRegs) : Bool := x.bind.getLsbD 5

/-- `sz(n)`, the element access size in bytes (R12, R154). -/
def szOf (n : Nat) : Nat := if n ≤ 8 then 1 else if n ≤ 16 then 2 else 4

/-- The low `8 * sz` bits of a value. -/
def lowBytes (sz : Nat) (v : Word) : Word := BitVec.ofNat 32 (v.toNat % 2 ^ (8 * sz))

/-- The legal widths of the generation (R150). -/
def legalWidth (p : Params) (n : Nat) : Bool :=
  match p.gen with
  | .gen1 => n == 8 || n == 16
  | .gen2 => decide (p.wGen2Min ≤ n) && decide (n ≤ p.wGen2Max)
  | .gen3 => decide (4 ≤ n) && decide (n ≤ 32)

/-- The default width code (R152). -/
def defaultWidthCode (g : Gen) (n : Nat) : BitVec 5 :=
  match g with
  | .gen1 => if n = 16 then 1 else 0
  | .gen2 | .gen3 => BitVec.ofNat 5 (n - 1)

/-- The code `WIDTHENC` gives width `n` (R152). -/
def widthCode (p : Params) (n : Nat) : BitVec 5 :=
  match p.widthEnc.overrides.find? (fun c => c.1 == n) with
  | some c => c.2
  | none => defaultWidthCode p.gen n

/-- The FIFO-threshold code of a width: quarter full up to 8 bits, half full above (R153). -/
def thresholdCode (p : Params) (n : Nat) : BitVec 1 :=
  if n ≤ 8 then p.widthEnc.quarter else p.widthEnc.half

/-- `enc(n)`: the field group written for width `n` (R152). -/
def widthFields (p : Params) (n : Nat) : List FieldSet :=
  match p.gen with
  | .gen1 => [.ws ((widthCode p n).setWidth 1)]
  | .gen2 => [.ds ((widthCode p n).setWidth 4), .fth (thresholdCode p n)]
  | .gen3 => [.dsize (widthCode p n)]

/-- The number a divisor stands for (R13). -/
def divisorNat : Divisor → Nat
  | .d2 => 2
  | .d4 => 4
  | .d8 => 8
  | .d16 => 16
  | .d32 => 32
  | .d64 => 64
  | .d128 => 128
  | .d256 => 256

/-- `DIVISORS` (R13). -/
def divisors : List Divisor := [.d2, .d4, .d8, .d16, .d32, .d64, .d128, .d256]

/-- `d(r)` for a ratio `r ≥ 1` (R120; 90_conflicts.md C1 to C3). -/
def divisorFor (r : Nat) : Divisor :=
  if r ≤ 2 then .d2
  else if r ≤ 5 then .d4
  else if r ≤ 11 then .d8
  else if r ≤ 23 then .d16
  else if r ≤ 39 then .d32
  else if r ≤ 95 then .d64
  else if r ≤ 191 then .d128
  else .d256

/-- `ComputeBR(K, F)` (R121): the divisor, or the fatal cause it raises. -/
def computeBR (k f : Word) : Except FCause Divisor :=
  if f = 0 then .error .freqZero
  else if k.toNat / f.toNat = 0 then .error .freqAboveClock
  else .ok (divisorFor (k.toNat / f.toNat))

/-- `ComputeFrequency(K, d)` (R122). -/
def computeFrequency (k : Word) (d : Divisor) : Word := BitVec.ofNat 32 (k.toNat / divisorNat d)

/-- `BRENC^-1` (R131): the divisor a code stands for. `BRENC` is a bijection (Safety.lean's
`ParamsOk`), so some divisor has the code. -/
def divisorOfCode (b : BrEnc) (c : BitVec 3) : Divisor :=
  match divisors.find? (fun d => b.code d == c) with
  | some d => d
  | none => .d2

/-- The mode fields INIT and SET_CONFIG write from `CFG` (R123 I4, R128 S1). -/
def modeFields (p : Params) (x : HostRegs) : List FieldSet :=
  [.cpol (x.cpol ^^^ p.modeEnc.invCpol), .cpha (x.cpha ^^^ p.modeEnc.invCpha),
   .lsbf (x.lsbf ^^^ p.modeEnc.invLsbf)]

/-- `RDCFG` read back from the control fields (R32, R131). -/
def rdcfgWord (p : Params) (c : Ctl) : Word :=
  BitVec.ofNat 16 (divisorNat (divisorOfCode p.brEnc c.br)) ++ 0#13 ++ (c.lsbf ^^^ p.modeEnc.invLsbf)
    ++ (c.cpha ^^^ p.modeEnc.invCpha) ++ (c.cpol ^^^ p.modeEnc.invCpol)

/-- The element of position `i` of a buffer at `a` (R66). -/
def elemAddr (a : Word) (i : Word) (sz : Nat) : Word := a + i * BitVec.ofNat 32 sz

/-- The command is a DMA command (OP 0x20 to 0x23). -/
def isDma : Instr → Bool
  | .dmaWrite _ | .dmaRead _ | .dmaXfer _ | .dmaXferIp _ => true
  | .init | .deinit | .setConfig | .getConfig | .setWidth _ | .flush | .blkWrite _ | .blkRead _
  | .blkXfer _ | .blkXferIp _ | .abort | .enSet | .enClr | .drain | .poll | .dmaen _ _
  | .finish => false

/-- The command uses the receive channel (R201). -/
def usesRxChannel : Instr → Bool
  | .dmaRead _ | .dmaXfer _ | .dmaXferIp _ => true
  | .init | .deinit | .setConfig | .getConfig | .setWidth _ | .flush | .blkWrite _ | .blkRead _
  | .blkXfer _ | .blkXferIp _ | .dmaWrite _ | .abort | .enSet | .enClr | .drain | .poll
  | .dmaen _ _ | .finish => false

/-- The command reads `TXADDR` and `TXLEN` (R94). -/
def readsTxBuffer : Instr → Bool
  | .blkWrite _ | .blkXfer _ | .dmaWrite _ | .dmaXfer _ => true
  | .init | .deinit | .setConfig | .getConfig | .setWidth _ | .flush | .blkRead _
  | .blkXferIp _ | .dmaRead _ | .dmaXferIp _ | .abort | .enSet | .enClr | .drain | .poll
  | .dmaen _ _ | .finish => false

/-- The command reads `RXADDR` and `RXLEN` (R94). -/
def readsRxBuffer : Instr → Bool
  | .blkRead _ | .blkXfer _ | .blkXferIp _ | .dmaRead _ | .dmaXfer _ | .dmaXferIp _ => true
  | .init | .deinit | .setConfig | .getConfig | .setWidth _ | .flush | .blkWrite _
  | .dmaWrite _ | .abort | .enSet | .enClr | .drain | .poll | .dmaen _ _ | .finish => false

/-- The states in which a command is accepted (R93). -/
def acceptedIn : Instr → Fsm
  | .init => .uninit
  | .abort => .waitDma
  | .deinit | .setConfig | .getConfig | .setWidth _ | .flush | .blkWrite _ | .blkRead _
  | .blkXfer _ | .blkXferIp _ | .dmaWrite _ | .dmaRead _ | .dmaXfer _ | .dmaXferIp _ | .enSet
  | .enClr | .drain | .poll | .dmaen _ _ | .finish => .idle

/-- The first label of a command's micro-program (R99). -/
def firstLabel : Instr → Label
  | .init => .init .i0
  | .deinit => .deinit .di0
  | .setConfig => .setConfig .s0
  | .getConfig => .getConfig .g0
  | .setWidth _ => .setWidth (.sw0 .w0)
  | .flush => .f0
  | .blkWrite _ | .blkRead _ | .blkXfer _ | .blkXferIp _ => .blk .b0
  | .dmaWrite _ | .dmaRead _ | .dmaXfer _ | .dmaXferIp _ => .dma .m0
  | .abort => .abort .a0
  | .enSet => .es0
  | .enClr => .ec0
  | .drain => .dn0 .dr0
  | .poll => .q0
  | .dmaen _ _ => .de0
  | .finish => .fn0 .fd0

/-- The buffer at `a` with `len` elements of `sz` bytes fails R65. -/
def misaligned (a len : Word) (sz : Nat) : Bool := len != 0 && a.toNat % sz != 0

/-- R98 (b): a buffer the command will access is misaligned. -/
def bufferMisaligned (i : Instr) (x : HostRegs) : Bool :=
  match i.width with
  | none => false
  | some n =>
    (readsTxBuffer i && misaligned x.txaddr x.txlen (szOf n))
      || (readsRxBuffer i && misaligned x.rxaddr x.rxlen (szOf n))

/-- R98 (a): the command needs a channel that `BIND` does not bind. -/
def channelMissing (i : Instr) (x : HostRegs) : Bool :=
  (isDma i && !x.txchBound) || (usesRxChannel i && !x.rxchBound)

/-- R97 (d): the command has format W and its width is not legal. -/
def widthIllegal (i : Instr) (p : Params) : Bool :=
  match i.width with
  | none => false
  | some n => !legalWidth p n

/-- The acceptance checks of R97 (c) to (e) and R98 in the order of R100: the code of the first that
fails. -/
def checks (i : Instr) (s : State) : Option ResultCode :=
  if s.status.fsm ≠ acceptedIn i then some .illegal
  else if widthIllegal i s.params then some .illegal
  else if isDma i && !s.regs.async then some .illegal
  else if channelMissing i s.regs then some .nochan
  else if bufferMisaligned i s.regs then some .align
  else none

end Sys2Proof.Machine
end

