-- ==== Sys2Proof/Machine/Ops.lean ====
section
/-! DEFINITION. The shared operations: the primitives of R11, the four endings of a command attempt
(R96, R252, R253, R255), acceptance (R99), and how a meaning runs (`State.perform`). -/

namespace Sys2Proof.Machine

/-- What one step answers. -/
abbrev Out := Host.Outcome State Fault Refusal

/-- Append an entry to the journal (R36). -/
def State.record (s : State) (e : Entry) : State := { s with journal := s.journal ++ [e] }

/-- Append an event to the trace (R36). -/
def State.emit (s : State) (e : Event) : State := s.record (.event e)

/-- The event trace of R36: the events of the journal. -/
def State.trace (s : State) : List Event :=
  s.journal.filterMap fun
    | .event e => some e
    | .hostWrite _ _ | .hostRead _ _ | .memWrite _ _ _ | .memRead _ _ _ | .dmaMove _ _ _
    | .completion _ => none

/-- `pc <- l` (R33). -/
def State.goto (s : State) (l : Label) : State := { s with mpc := some l }

/-- Set one field of `INIT_EXTRA`, keeping the fields rising. -/
def setExtra : List (Nat × Word) → Nat → Word → List (Nat × Word)
  | [], k, v => [(k, v)]
  | (j, w) :: t, k, v =>
    if k < j then (k, v) :: (j, w) :: t
    else if k = j then (k, v) :: t
    else (j, w) :: setExtra t k v

/-- One assignment of a `FieldWrite`. -/
def assignField (c : Ctl) : FieldSet → Ctl
  | .en v => { c with en := v }
  | .cpol v => { c with cpol := v }
  | .cpha v => { c with cpha := v }
  | .lsbf v => { c with lsbf := v }
  | .br v => { c with br := v }
  | .ws v => { c with ws := v }
  | .ds v => { c with ds := v }
  | .fth v => { c with fth := v }
  | .dsize v => { c with dsize := v }
  | .start v => { c with start := v }
  | .susp v => { c with susp := v }
  | .txdmaen v => { c with txdmaen := v }
  | .rxdmaen v => { c with rxdmaen := v }
  | .extra k v => { c with extra := setExtra c.extra k v }

/-- The control image after a group of assignments. -/
def assignFields (c : Ctl) (fs : List FieldSet) : Ctl := fs.foldl assignField c

/-- `FieldWrite(fs)` (R11): the listed fields together, the others unchanged. -/
def State.fieldWrite (s : State) (fs : List FieldSet) : State :=
  { s with ctl := assignFields s.ctl fs }.emit (.fw fs)

/-- `RegWrite(IFCR, v)` (R11). -/
def State.regWriteIfcr (s : State) (v : Word) : State := s.emit (.rwIfcr v)

/-- `FieldRead({CPOL, CPHA, LSBF, BR})` (R11, R131): the fields stand in `ctl` (R45). -/
def State.fieldReadConfig (s : State) : State :=
  s.emit (.fr [.cpol s.ctl.cpol, .cpha s.ctl.cpha, .lsbf s.ctl.lsbf, .br s.ctl.br])

/-- The next status sample of the peripheral: the environment's, or a free value. -/
def Env.nextSample (e : Env) : Sample :=
  match e.samples with
  | x :: _ => x
  | [] => Config.freeSample e.draws

/-- The environment after a status sample. -/
def Env.afterSample (e : Env) : Env :=
  { e with samples := e.samples.tail, draws := e.draws + 1 }

/-- The next receive-data value: the environment's, or a free value. -/
def Env.nextData (e : Env) : Word :=
  match e.reads with
  | x :: _ => x
  | [] => Config.freeData e.draws

/-- The environment after a receive-data read. -/
def Env.afterData (e : Env) : Env :=
  { e with reads := e.reads.tail, draws := e.draws + 1 }

/-- The clock collaborator's next answer: the environment's, or a free value. -/
def Env.nextClock (e : Env) : Word :=
  match e.clocks with
  | x :: _ => x
  | [] => Config.freeClock e.draws

/-- The environment after a clock answer. -/
def Env.afterClock (e : Env) : Env :=
  { e with clocks := e.clocks.tail, draws := e.draws + 1 }

/-- Which racing stores the host's next read of memory sees: the environment's choice, or a free
value. -/
def Env.nextPick (e : Env) : Nat :=
  match e.picks with
  | x :: _ => x
  | [] => Config.freePick e.draws

/-- The environment after a read of memory by the host. -/
def Env.afterPick (e : Env) : Env :=
  { e with picks := e.picks.tail, draws := e.draws + 1 }

/-- The environment after some other free value. -/
def Env.afterFree (e : Env) : Env := { e with draws := e.draws + 1 }

/-- The sample the next `StatusSample` returns. -/
def State.coming (s : State) : Sample := sampleOf s.params.gen s.env.nextSample

/-- `s <- StatusSample()` (R11, R43, R172): the flags also go to `SSAMPLE`. -/
def State.statusSample (s : State) : State :=
  { s with
    vars := { s.vars with s := s.coming }
    regs := { s.regs with ssample := ssampleWord s.coming }
    env := s.env.afterSample }.emit (.ss s.coming)

/-- `e <- errclass(s)`, in the step that took the sample. -/
def State.classify (s : State) : State := { s with vars := { s.vars with e := errclass s.vars.s } }

/-- `DataWrite(sz, v)` (R11). -/
def State.dataWrite (s : State) (sz : Nat) (v : Word) : State := s.emit (.dw sz v)

/-- The value the next `DataRead(sz)` returns. -/
def State.comingData (s : State) (sz : Nat) : Word := lowBytes sz s.env.nextData

/-- `DataRead(sz)`, its value not kept (R11, R170). -/
def State.dataRead (s : State) (sz : Nat) : State :=
  { s with env := s.env.afterData }.emit (.dr sz (s.comingData sz))

/-- `rx <- DataRead(sz)` (R175). -/
def State.dataReadRx (s : State) (sz : Nat) : State :=
  { s with
    vars := { s.vars with rx := s.comingData sz }
    env := s.env.afterData }.emit (.dr sz (s.comingData sz))

/-- The value `MemRead(a, sz)` returns. -/
def State.loaded (s : State) (a : Word) (sz : Nat) : Word := BitVec.ofNat 32 (s.mem.load a sz)

/-- `tx <- MemRead(a, sz)` (R11, R62). -/
def State.memReadTx (s : State) (a : Word) (sz : Nat) : State :=
  { s with vars := { s.vars with tx := s.loaded a sz } }.emit (.mr a sz (s.loaded a sz))

/-- A store to system memory: `mem` changes, and the host's view has one more store. -/
def State.store (s : State) (w : Stored) : State :=
  { s with mem := s.mem.store w.addr w.size w.value.toNat, view := s.view.push w }

/-- `MemWrite(a, sz, v)` (R11, R62). -/
def State.memWrite (s : State) (a : Word) (sz : Nat) (v : Word) : State :=
  (s.store ⟨a, sz, v, false⟩).emit (.mw a sz v)

/-- `DmaSubmit(ch, d)` (R11): also `chSUB <- 1`, `chDONE_L <- 0` (R34). -/
def State.dmaSubmit (s : State) (ch : Channel) (d : Desc) : State :=
  match ch with
  | .tx =>
    { s with join := { s.join with txsub := true, txdone := false }
             txch := some ⟨d, []⟩ }.emit (.ds .tx d)
  | .rx =>
    { s with join := { s.join with rxsub := true, rxdone := false }
             rxch := some ⟨d, []⟩ }.emit (.ds .rx d)

/-- `DmaHalt(ch)` (R11): the channel moves nothing more and signals nothing (R211). -/
def State.dmaHalt (s : State) (ch : Channel) : State :=
  match ch with
  | .tx => { s with txch := none }.emit (.dh .tx)
  | .rx => { s with rxch := none }.emit (.dh .rx)

/-- `ClkEnableReset(); clk_on <- 1; ctl <- PERIPH_RESET` (R123 I0). -/
def State.clkEnableReset (s : State) : State :=
  { s with clkOn := true, ctl := s.params.periphReset }.emit .cer

/-- `K <- ClkFreq(); x[KCLK] <- K` (R123 I1). -/
def State.clkFreq (s : State) : State :=
  { s with
    regs := { s.regs with kclk := s.env.nextClock }
    env := s.env.afterClock }.emit (.cf s.env.nextClock)

/-- `ClkDisable(); clk_on <- 0`; the control image is unknown from here on, a free value (R126 DI3,
D24). -/
def State.clkDisable (s : State) : State :=
  { s with
    clkOn := false
    ctl := Config.freeCtl s.env.draws
    env := s.env.afterFree }.emit .cd

/-- `PinDisconnect(role)` (R11). -/
def State.pinDisconnect (s : State) (p : Pin) : State := s.emit (.pd p)

/-- `CUR_WIDTH <- n` (R37). -/
def State.setCurWidth (s : State) (n : Nat) : State := { s with curWidth := n }

/-- `raise Reject(code)` (R252). -/
def State.reject (s : State) (code : ResultCode) : State :=
  { s with status := { s.status with result := code, done := true } }

/-- `Complete(code)` (R253). -/
def State.complete (s : State) (code : ResultCode) : State :=
  { s with
    status := { s.status with
      result := code
      done := true
      fsm := if s.latch.op = Instr.deinit.opcode then .uninit else .idle }
    mpc := none }

/-- `raise Fatal(cause)` (R255). -/
def State.raiseFatal (s : State) (cause : FCause) : State :=
  { s with
    status := { s.status with fcause := cause, result := .fatal, done := true, fsm := .fatal }
    mpc := none }

/-- An ignored `CMD` write: `LOST` is set and nothing else changes (R96). -/
def State.ignoreCmd (s : State) : State := { s with status := { s.status with lost := true } }

/-- The latched command after acceptance of `i`: `op`; `n` and `sz` for format W; `T` and `R` for
format D (R35, R99). -/
def Latch.accept (k : Latch) (i : Instr) : Latch :=
  match i with
  | .setWidth n | .blkWrite n | .blkRead n | .blkXfer n | .blkXferIp n
  | .dmaWrite n | .dmaRead n | .dmaXfer n | .dmaXferIp n =>
    { k with op := i.opcode, n := n, sz := szOf n }
  | .dmaen t r => { k with op := i.opcode, t := t, r := r }
  | .init | .deinit | .setConfig | .getConfig | .flush | .abort | .enSet | .enClr | .drain
  | .poll | .finish => { k with op := i.opcode }

/-- The join state after acceptance: cleared, but kept by ABORT (R34, R99). -/
def Join.accept (j : Join) (i : Instr) : Join :=
  if i = .abort then j else ⟨false, false, false, false⟩

/-- Acceptance (R99). -/
def State.accept (s : State) (i : Instr) : State :=
  { s with
    latch := s.latch.accept i
    join := s.join.accept i
    status := { s.status with done := false, result := .ok, fsm := .busy }
    mpc := some (firstLabel i) }

/-- R96: in this state the host's attempt at `i` is ignored. -/
def State.ignores (s : State) (i : Instr) : Bool :=
  match s.status.fsm with
  | .busy | .fatal => true
  | .waitDma => decide (i ≠ .abort)
  | .uninit | .idle => false

/-- A command attempt: ignored (R96), rejected (R97, R98) or accepted (R99), the checks in the order
of R100. -/
def State.attempt (s : State) (i : Instr) : State :=
  if s.ignores i then s.ignoreCmd
  else
    match checks i s with
    | some code => s.reject code
    | none => s.accept i

/-- The command the latches hold (R35). -/
def Latch.instr (k : Latch) : Option Instr := instrOf k.op k.n k.t k.r

/-- The command whose micro-program is running: `mpc` is none outside BUSY and WAIT_DMA (R33). -/
def State.running (s : State) : Option Instr :=
  match s.status.fsm, s.mpc with
  | .busy, some _ | .waitDma, some _ => s.latch.instr
  | .busy, none | .waitDma, none | .uninit, _ | .idle, _ | .fatal, _ => none

/-- How the meaning of a command `i` with micro-program `prog` runs (notes/assumptions/5.md): where
`i` is the running command, the step of `prog` that `mpc` names; elsewhere, the host's attempt at
it. `prog` answers none for a label that is not its own. -/
def State.perform (s : State) (i : Instr) (prog : Label → State → Option State) : Out :=
  if s.running = some i then
    match s.mpc with
    | some l =>
      match prog l s with
      | some t => .next t
      | none => .fault .strayLabel
    | none => .fault .strayLabel
  else .next (s.attempt i)

end Sys2Proof.Machine
end

