-- ==== Sys2Proof/Machine/Procedures.lean ====
section
/-! DEFINITION. The procedures that micro-programs inline: `SetWordWidth` (R155 to R158), `Drain`
(R170, R171), `PollFor` (R174) and `FinishDma` (R209). `wrap` turns a procedure's label into one of
the caller; `ret` is the caller's next label; `cont` is the caller's next line, run in the same step
where the procedure takes none (notes/assumptions/6.md). -/

namespace Sys2Proof.Machine

/-- The first line of the width change, by generation: W1.0, W2.0 or W3.0. -/
def widthStart (wrap : WidthLabel → Label) (s : State) : State :=
  match s.params.gen with
  | .gen1 => (s.fieldWrite [.en 0]).goto (wrap .w11)
  | .gen2 => (s.fieldWrite [.en 0]).goto (wrap .w21)
  | .gen3 => (s.fieldWrite [.susp 1]).goto (wrap .w31)

/-- `FieldWrite(enc(n))` for the latched `n`. -/
def State.writeWidth (s : State) : State := s.fieldWrite (widthFields s.params s.latch.n)

/-- The last line of the width change: `FieldWrite({EN := 1}); CUR_WIDTH <- n`. -/
def State.finishWidth (s : State) : State := (s.fieldWrite [.en 1]).setCurWidth s.latch.n

/-- W3.1: spin until transfer complete; no error flag is checked (R158). -/
def widthSpin (wrap : WidthLabel → Label) (s : State) : State :=
  s.statusSample.goto (wrap (if s.coming.tc then .w32 else .w31))

/-- `SetWordWidth(n)` for the latched `n` (R155 to R158). -/
def setWordWidth (wrap : WidthLabel → Label) (ret : Label) (cont : State → State)
    (l : WidthLabel) (s : State) : State :=
  match l with
  | .w0 => if s.latch.n = s.curWidth then cont s else widthStart wrap s
  | .w11 => s.writeWidth.goto (wrap .w12)
  | .w12 => s.finishWidth.goto ret
  | .w21 => s.writeWidth.goto (wrap .w22)
  | .w22 => s.finishWidth.goto ret
  | .w31 => widthSpin wrap s
  | .w32 => (s.fieldWrite [.en 0]).goto (wrap .w33)
  | .w33 => s.writeWidth.goto (wrap .w34)
  | .w34 => (s.fieldWrite [.susp 0]).goto (wrap .w35)
  | .w35 => s.finishWidth.goto ret

/-- `Drain()` (R170, R171): no step on GEN3; no error flag is checked; the read size is that of the
programmed width. -/
def drain (wrap : DrainLabel → Label) (ret : Label) (cont : State → State)
    (l : DrainLabel) (s : State) : State :=
  match l with
  | .dr0 =>
    if s.params.gen = .gen3 then cont s
    else s.statusSample.goto (if s.coming.rxrdy then wrap .dr1 else ret)
  | .dr1 => (s.dataRead (szOf s.curWidth)).goto (wrap .dr0)

/-- `PollFor(flag)` at label `here` (R174): the error check comes before the ready check. -/
def pollFor (flag : Sample → Bool) (here ret : Label) (s : State) : State :=
  if errclass s.coming ≠ .none then
    s.statusSample.classify.complete (errclass s.coming).result
  else s.statusSample.classify.goto (if flag s.coming then ret else here)

/-- `FinishDma()` (R209); no error flag is checked (R210). -/
def finishDma (wrap : FinishLabel → Label) (ret : Label) (l : FinishLabel) (s : State) : State :=
  match l with
  | .fd0 => s.statusSample.goto (wrap (if quiescent s.params.gen s.coming then .fd1 else .fd0))
  | .fd1 => (s.fieldWrite [.en 0]).goto (wrap .fd2)
  | .fd2 => (s.fieldWrite [.txdmaen 0, .rxdmaen 0]).goto ret

end Sys2Proof.Machine
end

