-- ==== Sys2Proof/Machine/Blocking.lean ====
section
/-! DEFINITION. The blocking engine (R175 to R178) and the four blocking commands
(42_blocking.md). -/

namespace Sys2Proof.Machine

/-- What a blocking command fixes (R178): `N`, `src(i)` and `sink(i, rx)`. -/
structure BlkSpec where
  len  : State → Word
  src  : State → State
  sink : State → State

/-- `src(i)` from the buffer at `a` (R178). -/
def srcMem (a : State → Word) (s : State) : State :=
  s.memReadTx (elemAddr (a s) s.vars.i s.latch.sz) s.latch.sz

/-- `src(i) = 0`, an internal step (R178). -/
def srcZero (s : State) : State := { s with vars := { s.vars with tx := 0 } }

/-- `sink(i, rx)` into the receive buffer (R178). -/
def sinkMem (s : State) : State :=
  s.memWrite (elemAddr s.regs.rxaddr s.vars.i s.latch.sz) s.latch.sz s.vars.rx

/-- `sink(i, rx)` = discard, an internal step (R178). -/
def sinkDiscard (s : State) : State := s

/-- L0; `N` is taken here too (notes/assumptions/15.md). -/
def blkL0 (b : BlkSpec) (s : State) : State :=
  { s with vars := { s.vars with i := 0, n := b.len s } }.goto (.blk .l1)

/-- B2. -/
def blkB2 (b : BlkSpec) (w : WidthLabel) (s : State) : State :=
  setWordWidth (fun w => .blk (.b2 w)) (.blk .l0) (blkL0 b) w s

/-- B1. -/
def blkB1 (b : BlkSpec) (d : DrainLabel) (s : State) : State :=
  drain (fun d => .blk (.b1 d)) (.blk (.b2 .w0)) (blkB2 b .w0) d s

/-- T3 of `TransferWord` (R175). -/
def blkT3 (s : State) : State := pollFor (·.rxrdy) (.blk .t3) (.blk .t4) s

/-- T2 of `TransferWord`: GEN3, after every word or only after the first (R175, R176). -/
def blkT2 (s : State) : State :=
  if s.params.gen = .gen3 ∧ (s.params.startEveryWord = true ∨ s.vars.i = 0) then
    (s.fieldWrite [.start 1]).goto (.blk .t3)
  else blkT3 s

/-- L5. -/
def blkL5 (s : State) : State :=
  { s with
    vars := { s.vars with i := s.vars.i + 1 }
    regs := { s.regs with xcount := s.vars.i + 1 } }.goto (.blk .l1)

/-- The micro-program of a blocking command (R177, R178). DESIGN CHOICE: L1, which R178 marks as an
internal step, takes a step also where `i` is not `N`, though R11 gives a line with a false guard none
(notes/assumptions/26.md). -/
def blkStep (b : BlkSpec) (l : BlkLabel) (s : State) : State :=
  match l with
  | .b0 => ({ s with regs := { s.regs with xcount := 0 } }.fieldWrite [.en 1]).goto (.blk (.b1 .dr0))
  | .b1 d => blkB1 b d s
  | .b2 w => blkB2 b w s
  | .l0 => blkL0 b s
  | .l1 => s.goto (.blk (if s.vars.i = s.vars.n then .fin else .l2))
  | .l2 => (b.src s).goto (.blk .t0)
  | .t0 => pollFor (·.txrdy) (.blk .t0) (.blk .t1) s
  | .t1 => (s.dataWrite s.latch.sz s.vars.tx).goto (.blk .t2)
  | .t2 => blkT2 s
  | .t3 => blkT3 s
  | .t4 => (s.dataReadRx s.latch.sz).goto (.blk .l4)
  | .l4 => (b.sink s).goto (.blk .l5)
  | .l5 => blkL5 s
  | .fin => s.complete .ok

/-- BLK_WRITE's positions (R183). -/
def blkWriteSpec : BlkSpec where
  len s := s.regs.txlen
  src := srcMem (·.regs.txaddr)
  sink := sinkDiscard

/-- BLK_READ's positions (R184). -/
def blkReadSpec : BlkSpec where
  len s := s.regs.rxlen
  src := srcZero
  sink := sinkMem

/-- BLK_XFER's positions (R185): the longer length; missing write elements are zero, missing read
elements are discarded. -/
def blkXferSpec : BlkSpec where
  len s := if s.regs.txlen ≤ s.regs.rxlen then s.regs.rxlen else s.regs.txlen
  src s := if s.vars.i < s.regs.txlen then srcMem (·.regs.txaddr) s else srcZero s
  sink s := if s.vars.i < s.regs.rxlen then sinkMem s else sinkDiscard s

/-- BLK_XFER_IP's positions (R186). -/
def blkXferIpSpec : BlkSpec where
  len s := s.regs.rxlen
  src := srcMem (·.regs.rxaddr)
  sink := sinkMem

/-- BLK_WRITE's micro-program by label; none for the label of another command. -/
def blkWriteProg (l : Label) (s : State) : Option State :=
  match l with
  | .blk l => some (blkStep blkWriteSpec l s)
  | _ => none

/-- BLK_WRITE (R183). -/
def execBlkWrite (n : Nat) (s : State) : Out := s.perform (.blkWrite n) blkWriteProg

/-- BLK_READ's micro-program by label; none for the label of another command. -/
def blkReadProg (l : Label) (s : State) : Option State :=
  match l with
  | .blk l => some (blkStep blkReadSpec l s)
  | _ => none

/-- BLK_READ (R184). -/
def execBlkRead (n : Nat) (s : State) : Out := s.perform (.blkRead n) blkReadProg

/-- BLK_XFER's micro-program by label; none for the label of another command. -/
def blkXferProg (l : Label) (s : State) : Option State :=
  match l with
  | .blk l => some (blkStep blkXferSpec l s)
  | _ => none

/-- BLK_XFER (R185). -/
def execBlkXfer (n : Nat) (s : State) : Out := s.perform (.blkXfer n) blkXferProg

/-- BLK_XFER_IP's micro-program by label; none for the label of another command. -/
def blkXferIpProg (l : Label) (s : State) : Option State :=
  match l with
  | .blk l => some (blkStep blkXferIpSpec l s)
  | _ => none

/-- BLK_XFER_IP (R186). -/
def execBlkXferIp (n : Nat) (s : State) : Out := s.perform (.blkXferIp n) blkXferIpProg

end Sys2Proof.Machine
end

