-- ==== Sys2Proof/Machine/Dma.lean ====
section
/-! DEFINITION. The DMA engine (R200 to R209), the four DMA commands and ABORT (43_dma.md). -/

namespace Sys2Proof.Machine

/-- What a DMA command fixes: whether it is DMA_XFER's length check that applies, `len(op)` (R200),
whether it uses the receive channel (R201), and the memory side of its transmit descriptor
(R206). -/
structure DmaSpec where
  lengthsMatch : State → Bool
  len          : State → Word
  rx           : Bool
  txMem        : State → MemSide

/-- M0 (R200): the length check precedes the zero check. -/
def dmaM0 (d : DmaSpec) (s : State) : State :=
  if d.lengthsMatch s = false then s.raiseFatal .lenMismatch
  else if d.len s = 0 then { s with vars := { s.vars with n := 0 } }.complete .ok
  else { s with vars := { s.vars with n := d.len s } }.goto (.dma (.m1 .w0))

/-- `rxdesc` (R204). -/
def rxDesc (s : State) : Desc where
  dir := .p2m
  periph := s.params.rxdrAddr
  mem := .addr s.regs.rxaddr
  count := s.vars.n
  esize := s.latch.sz
  request := s.params.rxReq
  options := .default

/-- `txdesc` (R206). -/
def txDesc (d : DmaSpec) (s : State) : Desc where
  dir := .m2p
  periph := s.params.txdrAddr
  mem := d.txMem s
  count := s.vars.n
  esize := s.latch.sz
  request := s.params.txReq
  options := .default

/-- M2. -/
def dmaM2 (s : State) : State := (s.fieldWrite [.en 0]).goto (.dma (.m3 .dr0))

/-- M6. -/
def dmaM6 (d : DmaSpec) (s : State) : State := (s.dmaSubmit .tx (txDesc d s)).goto (.dma .m7)

/-- M5: only with the receive channel. -/
def dmaM5 (d : DmaSpec) (s : State) : State :=
  if d.rx then (s.dmaSubmit .rx (rxDesc s)).goto (.dma .m6) else dmaM6 d s

/-- M4: only with the receive channel. -/
def dmaM4 (d : DmaSpec) (s : State) : State :=
  if d.rx then (s.fieldWrite [.rxdmaen 1]).goto (.dma .m5) else dmaM5 d s

/-- M3: only with the receive channel (R203). -/
def dmaM3 (d : DmaSpec) (l : DrainLabel) (s : State) : State :=
  if d.rx then drain (fun l => .dma (.m3 l)) (.dma .m4) (dmaM4 d) l s else dmaM4 d s

/-- M10: suspend at the join (R208). -/
def dmaM10 (s : State) : State :=
  { s with status := { s.status with fsm := .waitDma } }.goto (.dma .m11)

/-- M9: GEN3 only. -/
def dmaM9 (s : State) : State :=
  if s.params.gen = .gen3 then (s.fieldWrite [.start 1]).goto (.dma .m10) else dmaM10 s

/-- M11: no step until `Join()` holds (R208). -/
def dmaM11 (s : State) : State :=
  if joinHolds s.join then
    { s with status := { s.status with fsm := .busy } }.goto (.dma (.m12 .fd0))
  else s

/-- The micro-program of a DMA command (R200, R202). -/
def dmaStep (d : DmaSpec) (l : DmaLabel) (s : State) : State :=
  match l with
  | .m0 => dmaM0 d s
  | .m1 w => setWordWidth (fun w => .dma (.m1 w)) (.dma .m2) dmaM2 w s
  | .m2 => dmaM2 s
  | .m3 l => dmaM3 d l s
  | .m4 => dmaM4 d s
  | .m5 => dmaM5 d s
  | .m6 => dmaM6 d s
  | .m7 => (s.fieldWrite [.txdmaen 1]).goto (.dma .m8)
  | .m8 => (s.fieldWrite [.en 1]).goto (.dma .m9)
  | .m9 => dmaM9 s
  | .m10 => dmaM10 s
  | .m11 => dmaM11 s
  | .m12 f => finishDma (fun f => .dma (.m12 f)) (.dma .m13) f s
  | .m13 => s.complete .ok

/-- DMA_WRITE's transfer (R212). -/
def dmaWriteSpec : DmaSpec where
  lengthsMatch _ := true
  len s := s.regs.txlen
  rx := false
  txMem s := .addr s.regs.txaddr

/-- DMA_READ's transfer (R213): the repeated constant 0 out. -/
def dmaReadSpec : DmaSpec where
  lengthsMatch _ := true
  len s := s.regs.rxlen
  rx := true
  txMem _ := .const 0

/-- DMA_XFER's transfer (R214). -/
def dmaXferSpec : DmaSpec where
  lengthsMatch s := s.regs.rxlen == s.regs.txlen
  len s := s.regs.rxlen
  rx := true
  txMem s := .addr s.regs.txaddr

/-- DMA_XFER_IP's transfer (R215): one buffer both ways. -/
def dmaXferIpSpec : DmaSpec where
  lengthsMatch _ := true
  len s := s.regs.rxlen
  rx := true
  txMem s := .addr s.regs.rxaddr

/-- DMA_WRITE's micro-program by label; none for the label of another command. -/
def dmaWriteProg (l : Label) (s : State) : Option State :=
  match l with
  | .dma l => some (dmaStep dmaWriteSpec l s)
  | _ => none

/-- DMA_WRITE (R212). -/
def execDmaWrite (n : Nat) (s : State) : Out := s.perform (.dmaWrite n) dmaWriteProg

/-- DMA_READ's micro-program by label; none for the label of another command. -/
def dmaReadProg (l : Label) (s : State) : Option State :=
  match l with
  | .dma l => some (dmaStep dmaReadSpec l s)
  | _ => none

/-- DMA_READ (R213). -/
def execDmaRead (n : Nat) (s : State) : Out := s.perform (.dmaRead n) dmaReadProg

/-- DMA_XFER's micro-program by label; none for the label of another command. -/
def dmaXferProg (l : Label) (s : State) : Option State :=
  match l with
  | .dma l => some (dmaStep dmaXferSpec l s)
  | _ => none

/-- DMA_XFER (R214). -/
def execDmaXfer (n : Nat) (s : State) : Out := s.perform (.dmaXfer n) dmaXferProg

/-- DMA_XFER_IP's micro-program by label; none for the label of another command. -/
def dmaXferIpProg (l : Label) (s : State) : Option State :=
  match l with
  | .dma l => some (dmaStep dmaXferIpSpec l s)
  | _ => none

/-- DMA_XFER_IP (R215). -/
def execDmaXferIp (n : Nat) (s : State) : Out := s.perform (.dmaXferIp n) dmaXferIpProg

/-- A2. -/
def abortA2 (s : State) : State := (s.fieldWrite [.en 0]).goto (.abort .a3)

/-- A1: only if a receive transfer is still in flight. -/
def abortA1 (s : State) : State :=
  if s.join.rxsub && !s.join.rxdone then (s.dmaHalt .rx).goto (.abort .a2) else abortA2 s

/-- A0: only if a transmit transfer is still in flight. -/
def abortA0 (s : State) : State :=
  if s.join.txsub && !s.join.txdone then (s.dmaHalt .tx).goto (.abort .a1) else abortA1 s

/-- The micro-program of ABORT (R216). -/
def abortStep (l : AbortLabel) (s : State) : State :=
  match l with
  | .a0 => abortA0 s
  | .a1 => abortA1 s
  | .a2 => abortA2 s
  | .a3 => (s.fieldWrite [.txdmaen 0, .rxdmaen 0]).goto (.abort .a4)
  | .a4 => s.complete .aborted

/-- ABORT's micro-program by label; none for the label of another command. -/
def abortProg (l : Label) (s : State) : Option State :=
  match l with
  | .abort l => some (abortStep l s)
  | _ => none

/-- ABORT (R216). -/
def execAbort (s : State) : Out := s.perform .abort abortProg

end Sys2Proof.Machine
end

