-- ==== Sys2Proof/Machine/Lifecycle.lean ====
section
/-! DEFINITION. INIT, DEINIT, SET_CONFIG, GET_CONFIG and FLUSH (40_lifecycle_config.md). One
definition per label; a label whose guard is false runs the next label's line in its place
(notes/assumptions/6.md). -/

namespace Sys2Proof.Machine

/-- I4. -/
def initI4 (s : State) : State :=
  (s.fieldWrite (modeFields s.params s.regs)).goto (.init .i5)

/-- I3 for group `g`; after the last group, I4. -/
def initI3 (g : Nat) (s : State) : State :=
  match s.params.initExtra[g]? with
  | some grp => (s.fieldWrite (grp.map fun f => .extra f.1 f.2)).goto (.init (.i3 (g + 1)))
  | none => initI4 s

/-- I2: GEN3 only. -/
def initI2 (s : State) : State :=
  if s.params.gen = .gen3 then (s.regWriteIfcr s.params.ifcrInit).goto (.init (.i3 0))
  else initI3 0 s

/-- I0. -/
def initI0 (s : State) : State :=
  { s.clkEnableReset with pins := s.regs.ownedPins }.goto (.init .i1)

/-- Keep the divisor `dv` and go on, or raise the fatal cause (R121). -/
def keepDivisor (s : State) (next : Label) : State :=
  match computeBR s.regs.kclk s.regs.freq with
  | .error c => s.raiseFatal c
  | .ok d => { s with vars := { s.vars with dv := d } }.goto next

/-- `FieldWrite({BR := BRENC(dv)})`. -/
def State.writeDivisor (s : State) : State := s.fieldWrite [.br (s.params.brEnc.code s.vars.dv)]

/-- The micro-program of INIT (R123). -/
def initStep (l : InitLabel) (s : State) : State :=
  match l with
  | .i0 => initI0 s
  | .i1 => keepDivisor s.clkFreq (.init .i2)
  | .i2 => initI2 s
  | .i3 g => initI3 g s
  | .i4 => initI4 s
  | .i5 => s.writeDivisor.goto (.init .i6)
  | .i6 => (s.fieldWrite (widthFields s.params 8)).goto (.init .i7)
  | .i7 => ((s.fieldWrite [.en 1]).setCurWidth 8).goto (.init .i8)
  | .i8 => s.complete .ok

/-- INIT's micro-program by label; none for the label of another command. -/
def initProg (l : Label) (s : State) : Option State :=
  match l with
  | .init l => some (initStep l s)
  | _ => none

/-- INIT (R123). -/
def execInit (s : State) : Out := s.perform .init initProg

/-- DI3. -/
def deinitDi3 (s : State) : State := s.clkDisable.goto (.deinit .di4)

/-- DI2: only if the MISO pin is owned. -/
def deinitDi2 (s : State) : State :=
  if s.regs.ownedPins.miso then (s.pinDisconnect .miso).goto (.deinit .di3) else deinitDi3 s

/-- DI1: only if the MOSI pin is owned. -/
def deinitDi1 (s : State) : State :=
  if s.regs.ownedPins.mosi then (s.pinDisconnect .mosi).goto (.deinit .di2) else deinitDi2 s

/-- DI0: only if the SCK pin is owned. -/
def deinitDi0 (s : State) : State :=
  if s.regs.ownedPins.sck then (s.pinDisconnect .sck).goto (.deinit .di1) else deinitDi1 s

/-- DI4. -/
def deinitDi4 (s : State) : State :=
  { s.setCurWidth 0 with
    regs := { s.regs with kclk := 0 }
    pins := ⟨false, false, false⟩ }.complete .ok

/-- The micro-program of DEINIT (R126). -/
def deinitStep (l : DeinitLabel) (s : State) : State :=
  match l with
  | .di0 => deinitDi0 s
  | .di1 => deinitDi1 s
  | .di2 => deinitDi2 s
  | .di3 => deinitDi3 s
  | .di4 => deinitDi4 s

/-- DEINIT's micro-program by label; none for the label of another command. -/
def deinitProg (l : Label) (s : State) : Option State :=
  match l with
  | .deinit l => some (deinitStep l s)
  | _ => none

/-- DEINIT (R126). -/
def execDeinit (s : State) : Out := s.perform .deinit deinitProg

/-- The micro-program of SET_CONFIG (R128). -/
def setConfigStep (l : SetConfigLabel) (s : State) : State :=
  match l with
  | .s0 => keepDivisor s (.setConfig .s1)
  | .s1 => (s.fieldWrite (modeFields s.params s.regs)).goto (.setConfig .s2)
  | .s2 => s.writeDivisor.goto (.setConfig .s3)
  | .s3 => s.complete .ok

/-- SET_CONFIG's micro-program by label; none for the label of another command. -/
def setConfigProg (l : Label) (s : State) : Option State :=
  match l with
  | .setConfig l => some (setConfigStep l s)
  | _ => none

/-- SET_CONFIG (R128). -/
def execSetConfig (s : State) : Out := s.perform .setConfig setConfigProg

/-- G0: `RDCFG` and `RDFREQ` from the fields read back and the captured clock (R131). -/
def State.readConfig (s : State) : State :=
  { s with
    regs := { s.regs with
      rdcfg := rdcfgWord s.params s.ctl
      rdfreq := computeFrequency s.regs.kclk (divisorOfCode s.params.brEnc s.ctl.br) } }.fieldReadConfig

/-- The micro-program of GET_CONFIG (R131). -/
def getConfigStep (l : GetConfigLabel) (s : State) : State :=
  match l with
  | .g0 => s.readConfig.goto (.getConfig .g1)
  | .g1 => s.complete .ok

/-- GET_CONFIG's micro-program by label; none for the label of another command. -/
def getConfigProg (l : Label) (s : State) : Option State :=
  match l with
  | .getConfig l => some (getConfigStep l s)
  | _ => none

/-- GET_CONFIG (R131). -/
def execGetConfig (s : State) : Out := s.perform .getConfig getConfigProg

/-- FLUSH's micro-program by label; none for the label of another command. -/
def flushProg (l : Label) (s : State) : Option State :=
  match l with
  | .f0 => some (s.complete .ok)
  | _ => none

/-- FLUSH, a no-op (R132). -/
def execFlush (s : State) : Out := s.perform .flush flushProg

end Sys2Proof.Machine
end

