-- ==== Sys2Proof/Machine/Primitives.lean ====
section
/-! DEFINITION. The per-generation primitive commands (44_primitives.md). -/

namespace Sys2Proof.Machine

/-- EN_SET's micro-program by label; none for the label of another command. -/
def enSetProg (l : Label) (s : State) : Option State :=
  match l with
  | .es0 => some ((s.fieldWrite [.en 1]).goto .es1)
  | .es1 => some (s.complete .ok)
  | _ => none

/-- EN_SET (R230). -/
def execEnSet (s : State) : Out := s.perform .enSet enSetProg

/-- EN_CLR's micro-program by label; none for the label of another command. -/
def enClrProg (l : Label) (s : State) : Option State :=
  match l with
  | .ec0 => some ((s.fieldWrite [.en 0]).goto .ec1)
  | .ec1 => some (s.complete .ok)
  | _ => none

/-- EN_CLR (R231). -/
def execEnClr (s : State) : Out := s.perform .enClr enClrProg

/-- DRAIN's micro-program by label; none for the label of another command. -/
def drainProg (l : Label) (s : State) : Option State :=
  match l with
  | .dn0 d => some (drain .dn0 .dn1 (fun s => s.complete .ok) d s)
  | .dn1 => some (s.complete .ok)
  | _ => none

/-- DRAIN (R232). -/
def execDrain (s : State) : Out := s.perform .drain drainProg

/-- POLL's micro-program by label; none for the label of another command. -/
def pollProg (l : Label) (s : State) : Option State :=
  match l with
  | .q0 => some (s.statusSample.classify.goto .q1)
  | .q1 => some (s.complete s.vars.e.result)
  | _ => none

/-- POLL (R233): the error class of the sample is the result; none is OK. -/
def execPoll (s : State) : Out := s.perform .poll pollProg

/-- DMAEN's micro-program by label; none for the label of another command. -/
def dmaenProg (l : Label) (s : State) : Option State :=
  match l with
  | .de0 => some ((s.fieldWrite [.txdmaen s.latch.t, .rxdmaen s.latch.r]).goto .de1)
  | .de1 => some (s.complete .ok)
  | _ => none

/-- DMAEN (R234), the bits as latched. -/
def execDmaen (t r : BitVec 1) (s : State) : Out := s.perform (.dmaen t r) dmaenProg

/-- FINISH's micro-program by label; none for the label of another command. -/
def finishProg (l : Label) (s : State) : Option State :=
  match l with
  | .fn0 f => some (finishDma .fn0 .fn1 f s)
  | .fn1 => some (s.complete .ok)
  | _ => none

/-- FINISH (R235). -/
def execFinish (s : State) : Out := s.perform .finish finishProg

end Sys2Proof.Machine
end

