-- ==== Sys2Proof/Machine/Width.lean ====
section
/-! DEFINITION. SET_WIDTH (41_word_width.md). -/

namespace Sys2Proof.Machine

/-- The micro-program of SET_WIDTH (R159). -/
def setWidthStep (l : SetWidthLabel) (s : State) : State :=
  match l with
  | .sw0 w => setWordWidth (fun w => .setWidth (.sw0 w)) (.setWidth .sw1) (fun s => s.complete .ok) w s
  | .sw1 => s.complete .ok

/-- SET_WIDTH's micro-program by label; none for the label of another command. -/
def setWidthProg (l : Label) (s : State) : Option State :=
  match l with
  | .setWidth l => some (setWidthStep l s)
  | _ => none

/-- SET_WIDTH (R159). -/
def execSetWidth (n : Nat) (s : State) : Out := s.perform (.setWidth n) setWidthProg

end Sys2Proof.Machine
end

