-- ==== Sys2Proof/Machine/Dispatch.lean ====
section
/-! DEFINITION. One arm per command. -/

namespace Sys2Proof.Machine

def exec (i : Instr) (s : State) : Host.Outcome State Fault Refusal :=
  match i with
  | .init => Sys2Proof.Machine.execInit s
  | .deinit => Sys2Proof.Machine.execDeinit s
  | .setConfig => Sys2Proof.Machine.execSetConfig s
  | .getConfig => Sys2Proof.Machine.execGetConfig s
  | .setWidth n => Sys2Proof.Machine.execSetWidth n s
  | .flush => Sys2Proof.Machine.execFlush s
  | .blkWrite n => Sys2Proof.Machine.execBlkWrite n s
  | .blkRead n => Sys2Proof.Machine.execBlkRead n s
  | .blkXfer n => Sys2Proof.Machine.execBlkXfer n s
  | .blkXferIp n => Sys2Proof.Machine.execBlkXferIp n s
  | .dmaWrite n => Sys2Proof.Machine.execDmaWrite n s
  | .dmaRead n => Sys2Proof.Machine.execDmaRead n s
  | .dmaXfer n => Sys2Proof.Machine.execDmaXfer n s
  | .dmaXferIp n => Sys2Proof.Machine.execDmaXferIp n s
  | .abort => Sys2Proof.Machine.execAbort s
  | .enSet => Sys2Proof.Machine.execEnSet s
  | .enClr => Sys2Proof.Machine.execEnClr s
  | .drain => Sys2Proof.Machine.execDrain s
  | .poll => Sys2Proof.Machine.execPoll s
  | .dmaen t r => Sys2Proof.Machine.execDmaen t r s
  | .finish => Sys2Proof.Machine.execFinish s

end Sys2Proof.Machine
end

