-- ==== Sys2Proof/Machine/HostPort.lean ====
section
/-! DEFINITION. The host register window (R21 to R32): what the host reads and what its writes do. -/

namespace Sys2Proof.Machine

/-- The host registers (R21). -/
inductive HostReg where
  | cmd | status | cfg | freq | bind | txaddr | rxaddr | txlen | rxlen
  | kclk | width | rdcfg | rdfreq | xcount | ssample
  deriving DecidableEq, Repr

/-- The register at an offset of the window; none at the reserved offsets (R21). -/
def regAt (off : BitVec 12) : Option HostReg :=
  match off with
  | 0x000#12 => some .cmd
  | 0x004#12 => some .status
  | 0x008#12 => some .cfg
  | 0x00C#12 => some .freq
  | 0x010#12 => some .bind
  | 0x014#12 => some .txaddr
  | 0x018#12 => some .rxaddr
  | 0x01C#12 => some .txlen
  | 0x020#12 => some .rxlen
  | 0x024#12 => some .kclk
  | 0x028#12 => some .width
  | 0x02C#12 => some .rdcfg
  | 0x030#12 => some .rdfreq
  | 0x034#12 => some .xcount
  | 0x038#12 => some .ssample
  | _ => none

/-- What a host read of a register returns (R21 to R23, R27, R29, R31). -/
def State.readReg (s : State) : HostReg → Word
  | .cmd => 0
  | .status => statusWord s.status s.join
  | .cfg => s.regs.cfg.setWidth 32
  | .freq => s.regs.freq
  | .bind => s.regs.bind.setWidth 32
  | .txaddr => s.regs.txaddr
  | .rxaddr => s.regs.rxaddr
  | .txlen => s.regs.txlen
  | .rxlen => s.regs.rxlen
  | .kclk => s.regs.kclk
  | .width => BitVec.ofNat 32 s.curWidth
  | .rdcfg => s.regs.rdcfg
  | .rdfreq => s.regs.rdfreq
  | .xcount => s.regs.xcount
  | .ssample => s.regs.ssample

/-- What a host read at an offset returns; reserved offsets read 0 (R21). -/
def State.readOffset (s : State) (off : BitVec 12) : Word :=
  match regAt off with
  | some g => s.readReg g
  | none => 0

/-- Operand registers but `BIND` take host writes in UNINIT and IDLE (R26). -/
def operandsOpen (f : Fsm) : Bool :=
  match f with
  | .uninit | .idle => true
  | .busy | .waitDma | .fatal => false

/-- A host write to a register other than `CMD` (R21, R23, R26). -/
def State.writeReg (s : State) (g : HostReg) (v : Word) : State :=
  match g with
  | .status =>
    if v.getLsbD 4 then { s with status := { s.status with lost := false } } else s
  | .cfg =>
    if operandsOpen s.status.fsm then { s with regs := { s.regs with cfg := v.setWidth 3 } } else s
  | .freq =>
    if operandsOpen s.status.fsm then { s with regs := { s.regs with freq := v } } else s
  | .bind =>
    if s.status.fsm = .uninit then { s with regs := { s.regs with bind := v.setWidth 6 } } else s
  | .txaddr =>
    if operandsOpen s.status.fsm then { s with regs := { s.regs with txaddr := v } } else s
  | .rxaddr =>
    if operandsOpen s.status.fsm then { s with regs := { s.regs with rxaddr := v } } else s
  | .txlen =>
    if operandsOpen s.status.fsm then { s with regs := { s.regs with txlen := v } } else s
  | .rxlen =>
    if operandsOpen s.status.fsm then { s with regs := { s.regs with rxlen := v } } else s
  | .cmd | .kclk | .width | .rdcfg | .rdfreq | .xcount | .ssample => s

/-- R96 for a raw word: what is ignored before any decoding. -/
def State.ignoresWord (s : State) (w : Word) : Bool :=
  match s.status.fsm with
  | .busy | .fatal => true
  | .waitDma => w != 0x00000030#32
  | .uninit | .idle => false

/-- A host write of `w` to `CMD` (R95): ignored (R96), rejected as ILLEGAL where it is no command
(R97 (a), (b)), or the attempt at its command, which `ex` answers. -/
def State.writeCmd (ex : Instr → State → Out) (w : Word) (s : State) : Out :=
  if s.ignoresWord w then .next s.ignoreCmd
  else
    match decode w with
    | .error _ => .next (s.reject .illegal)
    | .ok i => ex i s

/-- The one kind of host access there is: 32 bits wide and aligned (R61). -/
def accessOk (off : BitVec 12) (size : Nat) : Bool := size == 4 && off.toNat % 4 == 0

/-- A host write in the window. -/
def State.hostWrite (ex : Instr → State → Out) (off : BitVec 12) (size : Nat) (v : Word)
    (s : State) : Out :=
  if accessOk off size then
    match regAt off with
    | some .cmd => (s.record (.hostWrite off v)).writeCmd ex v
    | some g => .next ((s.record (.hostWrite off v)).writeReg g v)
    | none => .next (s.record (.hostWrite off v))
  else .refused .hostAccess

/-- The state after the host has read at an offset: no side effect on SPISEQ (R269); but a read of
`STATUS` that finds `DONE` = 1 makes every store visible to the host (R75). -/
def State.afterRead (s : State) (off : BitVec 12) : State :=
  { s with view := if off = 0x004 ∧ s.status.done = true then ⟨s.mem, []⟩ else s.view }

/-- A host read in the window. -/
def State.hostRead (off : BitVec 12) (size : Nat) (s : State) : Out :=
  if accessOk off size then .next ((s.afterRead off).record (.hostRead off (s.readOffset off)))
  else .refused .hostAccess

end Sys2Proof.Machine
end

