-- ==== Sys2Proof/Machine/Environment.lean ====
section
/-! DEFINITION. The other agents and the system (R20, R211, R280): one turn of each, and which turn is
next. `ex` is the meaning of a command. -/

namespace Sys2Proof.Machine

/-- The transfer in flight on a channel. -/
def State.flight (s : State) (ch : Channel) : Option Flight :=
  match ch with
  | .tx => s.txch
  | .rx => s.rxch

/-- Replace the transfer in flight on a channel. -/
def State.setFlight (s : State) (ch : Channel) (f : Option Flight) : State :=
  match ch with
  | .tx => { s with txch := f }
  | .rx => { s with rxch := f }

/-- Note that element `k` has been moved. -/
def Flight.mark (f : Flight) (k : Nat) : Flight := { f with moved := k :: f.moved }

/-- The address of element `k` of a transfer whose memory starts at `a` (R66). -/
def Flight.elem (f : Flight) (a : Word) (k : Nat) : Word :=
  elemAddr a (BitVec.ofNat 32 k) f.desc.esize

/-- A channel moves element `k` (R211): M2P reads it from memory; P2M stores a received value, a
draw. A channel that is idle, has moved `k` already, has no element `k`, or has no memory side makes
no move (notes/assumptions/9.md). -/
def State.dmaMove (s : State) (ch : Channel) (k : Nat) : State :=
  match s.flight ch with
  | none => s
  | some f =>
    match f.desc.mem with
    | .const _ => s
    | .addr a =>
      if k < f.desc.count.toNat ∧ k ∉ f.moved then
        match f.desc.dir with
        | .m2p =>
          (s.setFlight ch (some (f.mark k))).record
            (.dmaMove ch k (s.loaded (f.elem a k) f.desc.esize))
        | .p2m =>
          { (s.setFlight ch (some (f.mark k))).store
              ⟨f.elem a k, f.desc.esize, s.comingData f.desc.esize, false⟩ with
            env := s.env.afterData }.record (.dmaMove ch k (s.comingData f.desc.esize))
      else s

/-- The number of elements a transfer moves to or from memory. -/
def Desc.moves (d : Desc) : Nat :=
  match d.mem with
  | .addr _ => d.count.toNat
  | .const _ => 0

/-- The latches after a completion signal of `ch`: `chDONE_L <- 1` if `chSUB` = 1 (R34). -/
def Join.complete (j : Join) (ch : Channel) : Join :=
  match ch with
  | .tx => { j with txdone := j.txdone || j.txsub }
  | .rx => { j with rxdone := j.rxdone || j.rxsub }

/-- A channel signals completion, once, after its last element (R211). A completion with no submission
in flight is ignored. -/
def State.dmaDone (s : State) (ch : Channel) : State :=
  match s.flight ch with
  | none => s
  | some f =>
    if f.moved.length = f.desc.moves then
      { s.setFlight ch none with join := s.join.complete ch }.record (.completion ch)
    else s

/-- The host, or another bus master, writes `size` bytes of system memory (R77, R103 `mw`). -/
def State.busWrite (s : State) (a : Word) (size : Nat) (v : Word) : State :=
  (s.store ⟨a, size, v, true⟩).record (.memWrite a size v)

/-- The value the host's next read of memory returns. -/
def State.hostLoaded (s : State) (a : Word) (size : Nat) : Word :=
  BitVec.ofNat 32 ((s.view.shown s.env.nextPick).load a size)

/-- The host, or another bus master, reads `size` bytes of system memory. It sees any of the
racing values: of the stores of `SEQ` and the DMA channels since the host last read `DONE` = 1, each
is seen or not, a free choice (R75, R77; notes/assumptions/27.md). -/
def State.busRead (s : State) (a : Word) (size : Nat) : State :=
  { s with env := s.env.afterPick }.record (.memRead a size (s.hostLoaded a size))

/-- Reset (R280, R281): every piece of state to its reset value, the collaborators with it. Memory
keeps what was written, and no command is left whose stores could race with the host; the parameters and the environment's coming answers stay; the control image
is unknown, a free value. -/
def State.systemReset (s : State) : State :=
  { State.resetWith s.params with
    mem := s.mem
    view := ⟨s.mem, []⟩
    ctl := Config.freeCtl s.env.draws
    env := s.env.afterFree }

/-- `SEQ`'s turn: the next step of the running command, if one runs. -/
def State.seqTurn (ex : Instr → State → Out) (s : State) : Out :=
  match s.running with
  | some i => ex i s
  | none => .next s

/-- The turn is the host's own access to the window, which it cannot make while it waits. -/
def Turn.ofHost (t : Turn) : Bool :=
  match t with
  | .hostWrite _ _ _ | .hostRead _ _ | .hostWait => true
  | .seq | .memWrite _ _ _ | .memRead _ _ | .dmaMove _ _ | .dmaDone _ | .reset => false

/-- The turns of a list that are not the host's own. -/
def othersTurns (ts : List Turn) : List Turn := ts.filter (fun t => !t.ofHost)

/-- The turn of `SEQ` or of a DMA channel that a number stands for; every one has its number. The host
and the system take no turn of their own: theirs are inputs, which the schedule lists. -/
def agentTurn (n : Nat) : Turn :=
  match n % 5 with
  | 0 => .seq
  | 1 => .dmaMove .tx (n / 5)
  | 2 => .dmaMove .rx (n / 5)
  | 3 => .dmaDone .tx
  | _ => .dmaDone .rx

/-- The turns of the other agents before the next poll of a wait (notes/assumptions/21.md): those the
environment lists; with none listed, those it repeats; with none of these, a free value, in any number
and order, so that nothing ends the wait for certain (R304). -/
def Env.pauseTurns (e : Env) : List Turn :=
  match e.between, e.rest with
  | ts :: _, _ => othersTurns ts
  | [], t :: ts => othersTurns (t :: ts)
  | [], [] => (Config.freeTurns e.draws).map agentTurn

/-- The environment after a poll of a wait, with the turns before the next poll in front. -/
def Env.afterPoll (e : Env) : Env :=
  { e with
    agenda := e.pauseTurns ++ Turn.hostWait :: e.agenda
    between := e.between.tail
    draws := e.draws + 1 }

/-- One poll of `wait` (R104): the host reads `STATUS`; while `DONE` is 0 it will poll again, after
turns of the other agents, in any number and order (R20). -/
def State.pollDone (s : State) : State :=
  if s.status.done then (s.afterRead 0x004).record (.hostRead 0x004 (s.readReg .status))
  else { s with env := s.env.afterPoll }.record (.hostRead 0x004 (s.readReg .status))

/-- One turn of one agent. -/
def State.turn (ex : Instr → State → Out) (t : Turn) (s : State) : Out :=
  match t with
  | .seq => s.seqTurn ex
  | .hostWrite off size v => s.hostWrite ex off size v
  | .hostRead off size => s.hostRead off size
  | .hostWait => .next s.pollDone
  | .memWrite a size v => .next (s.busWrite a size v)
  | .memRead a size => .next (s.busRead a size)
  | .dmaMove ch k => .next (s.dmaMove ch k)
  | .dmaDone ch => .next (s.dmaDone ch)
  | .reset => .next s.systemReset

/-- The turn that is next (notes/assumptions/1.md): the head of the agenda; with nothing on it, the first
of the turns that repeat; with none of these, a free value: no agent is scheduled for certain (R304). -/
def Env.nextTurn (e : Env) : Turn :=
  match e.agenda, e.rest with
  | t :: _, _ => t
  | [], t :: _ => t
  | [], [] => agentTurn (Config.freeTurn e.draws)

/-- The environment once that turn is taken. -/
def Env.afterTurn (e : Env) : Env :=
  match e.agenda, e.rest with
  | _ :: ts, _ => { e with agenda := ts }
  | [], _ :: ts => { e with agenda := ts }
  | [], [] => { e with draws := e.draws + 1 }

/-- The turn that is next. -/
def State.nextTurn (s : State) : Turn := s.env.nextTurn

/-- The state with that turn taken off the schedule. -/
def State.popTurn (s : State) : State := { s with env := s.env.afterTurn }

/-- Put a turn in front of the agenda. -/
def State.pushTurn (s : State) (t : Turn) : State :=
  { s with env := { s.env with agenda := t :: s.env.agenda } }

/-- One step of the machine: the next turn. -/
def State.advance (ex : Instr → State → Out) (s : State) : Out := s.popTurn.turn ex s.nextTurn

end Sys2Proof.Machine
end

