-- ==== Sys2Proof/Machine/HostProgram.lean ====
section
/-! DEFINITION. The host assembly syntax of R103 and the pseudo-instructions of R104, as a list of host
turns. -/

namespace Sys2Proof.Machine

/-- The offset of a host register (R21). -/
def HostReg.offset : HostReg → BitVec 12
  | .cmd => 0x000
  | .status => 0x004
  | .cfg => 0x008
  | .freq => 0x00C
  | .bind => 0x010
  | .txaddr => 0x014
  | .rxaddr => 0x018
  | .txlen => 0x01C
  | .rxlen => 0x020
  | .kclk => 0x024
  | .width => 0x028
  | .rdcfg => 0x02C
  | .rdfreq => 0x030
  | .xcount => 0x034
  | .ssample => 0x038

/-- A line of a host program (R103), or a pseudo-instruction (R104). Comments are not kept. -/
inductive HostLine where
  | hw (g : HostReg) (v : Word)
  | hr (g : HostReg)
  /-- `cmd MNEMONIC`, with `w=`, `t=` and `r=` where the command has them. -/
  | cmd (i : Instr)
  | mw (a : Word) (sz : Nat) (v : Word)
  | wait
  | call (i : Instr)
  | setcfg (cpol cpha lsbf : BitVec 1) (f : Word)
  | xferArgs (ta tl ra rl : Word)
  | clrlost
  deriving DecidableEq, Repr

/-- A 32-bit host write to a register. -/
def writeTurn (g : HostReg) (v : Word) : Turn := .hostWrite g.offset 4 v

/-- The turns of one line (R103, R104). -/
def HostLine.turns : HostLine → List Turn
  | .hw g v => [writeTurn g v]
  | .hr g => [.hostRead g.offset 4]
  | .cmd i => [writeTurn .cmd (encode i)]
  | .mw a sz v => [.memWrite a sz v]
  | .wait => [.hostWait]
  | .call i => [writeTurn .cmd (encode i), .hostWait]
  | .setcfg cpol cpha lsbf f => [writeTurn .cfg (0#29 ++ lsbf ++ cpha ++ cpol), writeTurn .freq f]
  | .xferArgs ta tl ra rl =>
    [writeTurn .txaddr ta, writeTurn .txlen tl, writeTurn .rxaddr ra, writeTurn .rxlen rl]
  | .clrlost => [writeTurn .status 0x00000010]

/-- The turns of a host program, each after the turns of the other agents that `gaps` lists for it. -/
def interleave : List Turn → List (List Turn) → List Turn
  | [], _ => []
  | t :: ts, [] => t :: interleave ts []
  | t :: ts, g :: gs => othersTurns g ++ t :: interleave ts gs

/-- A state in which the host is about to run a program. DESIGN CHOICE: what the other agents do before
each access of the host is listed in `gaps`, any turns (R20); after the end of that list the accesses
come back to back, and only a `wait` lets the others move (notes/assumptions/29.md). -/
def State.withProgram (s : State) (p : List HostLine) (gaps : List (List Turn)) : State :=
  { s with env := { s.env with
      agenda := interleave (p.flatMap HostLine.turns) gaps ++ s.env.agenda } }

end Sys2Proof.Machine
end

