-- ==== Sys2Proof/Machine/Step.lean ====
section
/-! DEFINITION. One step of the machine, and a command word put where the next step takes it from. -/

namespace Sys2Proof.Machine

/-- One step: the next turn, a command meaning what `exec` says. -/
def step (s : State) : Host.Outcome State Fault Refusal := s.advance exec

/-- The state in which the host's next access writes the word `w` to `CMD`: SPISEQ fetches nothing
(R80), its commands come from the host (R22; notes/assumptions/8.md). -/
def State.withFetchWord (s : State) (_nbits w : Nat) : State :=
  s.pushTurn (writeTurn .cmd (BitVec.ofNat 32 w))

end Sys2Proof.Machine
end

