-- ==== Sys2Proof/Safety.lean ====
section
/-! DEFINITION. What claims speak of: sound parameters, a legal state, and runs of a command's own
steps. -/

namespace Sys2Proof.Machine

/-- The parameters meet what the rules ask of them: the bounds of R150, a `BRENC` that is injective,
so a bijection onto the 3-bit codes (R131), and a `WIDTHENC` injective on the legal widths (R152). -/
structure ParamsOk (p : Params) : Prop where
  minLow    : 4 ≤ p.wGen2Min
  minHigh   : p.wGen2Min ≤ 8
  maxLow    : 8 ≤ p.wGen2Max
  maxHigh   : p.wGen2Max ≤ 16
  brEnc     : ∀ d e, p.brEnc.code d = p.brEnc.code e → d = e
  widthEnc  : ∀ m n, legalWidth p m = true → legalWidth p n = true →
    widthFields p m = widthFields p n → m = n

/-- The label is one of the command's micro-program. -/
def ownsLabel (i : Instr) (l : Label) : Bool :=
  match l with
  | .init _ => i == .init
  | .deinit _ => i == .deinit
  | .setConfig _ => i == .setConfig
  | .getConfig _ => i == .getConfig
  | .setWidth _ =>
    match i with
    | .setWidth _ => true
    | _ => false
  | .f0 => i == .flush
  | .blk _ =>
    match i with
    | .blkWrite _ | .blkRead _ | .blkXfer _ | .blkXferIp _ => true
    | _ => false
  | .dma _ => isDma i
  | .abort _ => i == .abort
  | .es0 | .es1 => i == .enSet
  | .ec0 | .ec1 => i == .enClr
  | .dn0 _ | .dn1 => i == .drain
  | .q0 | .q1 => i == .poll
  | .de0 | .de1 =>
    match i with
    | .dmaen _ _ => true
    | _ => false
  | .fn0 _ | .fn1 => i == .finish

/-- The labels at which a transfer may be in flight on the transmit channel: from its submission to
the join, and in ABORT until it is halted. -/
def mayFlyTx (l : Label) : Bool :=
  match l with
  | .dma .m7 | .dma .m8 | .dma .m9 | .dma .m10 | .dma .m11 | .abort .a0 => true
  | _ => false

/-- The same for the receive channel, which is submitted one step earlier and halted one later. -/
def mayFlyRx (l : Label) : Bool :=
  match l with
  | .dma .m6 | .dma .m7 | .dma .m8 | .dma .m9 | .dma .m10 | .dma .m11
  | .abort .a0 | .abort .a1 => true
  | _ => false

/-- A legal state: the invariants the rules keep (R23, R25, R32, R33, R34, R35, R47, R211, and the
canonical form of memory). -/
structure Inv (s : State) : Prop where
  params      : ParamsOk s.params
  memory      : s.mem.wf
  /-- The host's view is of a memory in canonical form. -/
  viewWf      : s.view.seen.wf
  /-- Nothing is lost to the host: with every store seen, its view is memory (R75). -/
  viewWhole   : s.view.whole = s.mem
  /-- R33: `mpc` is none exactly outside BUSY and WAIT_DMA. -/
  mpcNone     : s.mpc = none ↔ s.status.fsm ≠ .busy ∧ s.status.fsm ≠ .waitDma
  /-- `SEQ` is in WAIT_DMA exactly at M11 (R202, R208). -/
  waiting     : s.status.fsm = .waitDma ↔ s.mpc = some (.dma .m11)
  /-- `mpc` names a label of the latched command (R33, R35). -/
  owned       : ∀ l, s.mpc = some l → ∃ i, s.latch.instr = some i ∧ ownsLabel i l = true
  /-- The latched width is legal, and the latched size is that of the width (R35, R151). -/
  latched     : ∀ l i n, s.mpc = some l → s.latch.instr = some i → i.width = some n →
    legalWidth s.params n = true ∧ s.latch.sz = szOf n
  /-- R25. -/
  notDone     : s.status.fsm = .busy ∨ s.status.fsm = .waitDma → s.status.done = false
  /-- R25. -/
  ended       : s.status.fsm = .idle ∨ s.status.fsm = .fatal → s.status.done = true
  /-- R23: `FCAUSE` is 0 unless `STATE` = FATAL; R255 gives FATAL a cause. -/
  cause       : s.status.fcause = .none ↔ s.status.fsm ≠ .fatal
  /-- R47 (b). -/
  widthNone   : s.status.fsm = .uninit → s.curWidth = 0
  /-- R47 (a), but for INIT's own steps before I8 and its fatal end (notes/assumptions/12.md). -/
  widthLegal  : s.status.fsm = .idle ∨ s.status.fsm = .waitDma ∨
      (s.status.fsm = .busy ∧ s.latch.instr ≠ some .init) ∨ s.mpc = some (.init .i8) →
    legalWidth s.params s.curWidth = true
  /-- R47 (c). -/
  joinTx      : s.join.txdone = true → s.join.txsub = true
  /-- R47 (c). -/
  joinRx      : s.join.rxdone = true → s.join.rxsub = true
  /-- A transfer in flight was submitted and has not completed (R34, R211). -/
  flightTx    : s.txch ≠ none → s.join.txsub = true ∧ s.join.txdone = false ∧
    ∃ l, s.mpc = some l ∧ mayFlyTx l = true
  /-- A transfer in flight was submitted and has not completed (R34, R211). -/
  flightRx    : s.rxch ≠ none → s.join.rxsub = true ∧ s.join.rxdone = false ∧
    ∃ l, s.mpc = some l ∧ mayFlyRx l = true
  /-- `SSAMPLE` is the last sample (R32, R172). -/
  ssample     : s.regs.ssample = ssampleWord s.vars.s

/-- `k` steps of the command `i` alone: its attempt, where none runs, and then its micro-program. -/
def execN (i : Instr) : Nat → State → Out
  | 0, s => .next s
  | k + 1, s =>
    match exec i s with
    | .next t => execN i k t
    | .fault r => .fault r
    | .refused r => .refused r

/-- The command `i` stands at label `l` of its micro-program. -/
abbrev At (s : State) (i : Instr) (l : Label) : Prop := s.running = some i ∧ s.mpc = some l

/-- The command `i` would be accepted: none runs, and no check of R97 and R98 fails. -/
abbrev Ready (s : State) (i : Instr) : Prop :=
  s.running ≠ some i ∧ s.ignores i = false ∧ checks i s = none

/-- The state after a command has ended with result `c` and left `STATE` = `f`. -/
def State.endedWith (s : State) (c : ResultCode) (f : Fsm) : State :=
  { s with status := { s.status with result := c, done := true, fsm := f }, mpc := none }

/-- The state after a status sample that returned `x`. -/
def State.sampled (s : State) (x : Sample) : State :=
  { s with
    vars := { s.vars with s := x }
    regs := { s.regs with ssample := ssampleWord x }
    env := s.env.afterSample
    journal := s.journal ++ [.event (.ss x)] }

/-- The state after SEQ has recorded event `e` and gone on to label `l`, with control image `c`. -/
def State.wrote (s : State) (c : Ctl) (e : Event) (l : Label) : State :=
  { s with ctl := c, journal := s.journal ++ [.event e], mpc := some l }

/-- Is the event a data-register access, and of which kind: `some true` for a write, `some false` for
a read. -/
def dataAccess (e : Event) : Option Bool :=
  match e with
  | .dw _ _ => some true
  | .dr _ _ => some false
  | .fw _ | .rwIfcr _ | .fr _ | .ss _ | .mr _ _ _ | .mw _ _ _ | .ds _ _ | .dh _ | .cer | .cf _
  | .cd | .pd _ => none

/-- The size and value of a write to the transmit data register. -/
def sentWord (e : Event) : Option (Nat × Word) :=
  match e with
  | .dw sz v => some (sz, v)
  | .fw _ | .rwIfcr _ | .fr _ | .ss _ | .dr _ _ | .mr _ _ _ | .mw _ _ _ | .ds _ _ | .dh _ | .cer
  | .cf _ | .cd | .pd _ => none

/-- The four blocking commands. -/
def isBlocking (i : Instr) : Bool :=
  match i with
  | .blkWrite _ | .blkRead _ | .blkXfer _ | .blkXferIp _ => true
  | .init | .deinit | .setConfig | .getConfig | .setWidth _ | .flush | .dmaWrite _ | .dmaRead _
  | .dmaXfer _ | .dmaXferIp _ | .abort | .enSet | .enClr | .drain | .poll | .dmaen _ _
  | .finish => false

/-- The number of positions of a blocking command (R183 to R186), as a number. -/
def positions (i : Instr) (x : HostRegs) : Nat :=
  match i with
  | .blkWrite _ => x.txlen.toNat
  | .blkRead _ | .blkXferIp _ => x.rxlen.toNat
  | .blkXfer _ => max x.txlen.toNat x.rxlen.toNat
  | .init | .deinit | .setConfig | .getConfig | .setWidth _ | .flush | .dmaWrite _ | .dmaRead _
  | .dmaXfer _ | .dmaXferIp _ | .abort | .enSet | .enClr | .drain | .poll | .dmaen _ _
  | .finish => 0

end Sys2Proof.Machine
end

