-- ==== Sys2Proof/Certificates/Slice0/Obligations.lean ====
section
/-! DEFINITION. The statements for the provers. -/

open Sys2Proof Sys2Proof.Machine

/-! ## Encoding -/

/-- R90 to R93: the word of every well-formed command decodes to the command, with every operand
bit. -/
def Obligations.DecodeOfEncodeIsTheCommand : Prop :=
  ∀ i : Instr, i.wf → decode (encode i) = .ok i

/-- R90 to R93: a word that decodes is the word of the command it decodes to, so every bit R91 shows
as 0 is 0 in it. -/
def Obligations.DecodableWordIsTheCommandsWord : Prop :=
  ∀ (w : Word) (i : Instr), decode w = .ok i → encode i = w ∧ i.wf

/-- R101: the reserved opcodes, and no others, are refused as opcodes. -/
def Obligations.ReservedOpcodesAreThoseListed : Prop :=
  ∀ w : Word, decode w = .error .reservedOpcode ↔
    (let op := w.toNat % 256
     op = 0x00 ∨ (0x07 ≤ op ∧ op ≤ 0x0F) ∨ (0x14 ≤ op ∧ op ≤ 0x1F) ∨ (0x24 ≤ op ∧ op ≤ 0x2F)
       ∨ (0x31 ≤ op ∧ op ≤ 0x3F) ∨ (0x46 ≤ op ∧ op ≤ 0xFF))

/-- Words of 95_test_vectors.md section 3, one or more of every family. -/
def Obligations.SpecWordsDecode : Prop :=
  decode 0x00000001#32 = .ok .init ∧ decode 0x00000003#32 = .ok .setConfig
    ∧ decode 0x00000405#32 = .ok (.setWidth 4) ∧ decode 0x00000C11#32 = .ok (.blkRead 12)
    ∧ decode 0x00002013#32 = .ok (.blkXferIp 32) ∧ decode 0x00001021#32 = .ok (.dmaRead 16)
    ∧ decode 0x00000030#32 = .ok .abort ∧ decode 0x00000344#32 = .ok (.dmaen 1 1)
    ∧ decode 0x00000244#32 = .ok (.dmaen 0 1) ∧ decode 0x00010006#32 = .error .reservedBits
    ∧ decode 0x00004810#32 = .error .reservedBits ∧ decode 0x00000444#32 = .error .reservedBits

/-! ## A command attempt -/

/-- R22, R95, R33, R35: a step runs the decoded command. When the host's next access writes to `CMD` a
word that R96 does not ignore and that decodes to `i`, the step is the meaning of `i`, in the state
without that turn and with the write recorded. When it is `SEQ`'s turn, the step is that of the running
command, which the latches name; with none running it changes nothing but the agenda. -/
def Obligations.StepRunsTheDecodedCommand : Prop :=
  ∀ (s : State) (ts : List Turn),
    (∀ (w : Word) (i : Instr), s.env.agenda = .hostWrite 0x000 4 w :: ts →
      s.ignoresWord w = false → decode w = .ok i →
      step s = exec i { s with env := { s.env with agenda := ts }
                               journal := s.journal ++ [.hostWrite 0x000 w] })
    ∧ (∀ i, s.env.agenda = .seq :: ts → s.running = some i →
      step s = exec i { s with env := { s.env with agenda := ts } })
    ∧ (s.env.agenda = .seq :: ts → s.running = none →
      step s = .next { s with env := { s.env with agenda := ts } })

/-- R99: an accepted command, whatever it is: what is latched, what is cleared, the first label of its
micro-program (the listings of R123, R126, R128, R131, R132, R155, R159, R177, R200, R216 and R230 to
R235), and that nothing else changes. A first line that may take no step keeps its label in `mpc` until
the step is taken: the model's choice, notes/assumptions/6.md. -/
def Obligations.AcceptanceLatchesAndStarts : Prop :=
  ∀ (s : State) (i : Instr), Ready s i → ∃ k l,
    exec i s = .next { s with
      latch := k
      join := if i = .abort then s.join else ⟨false, false, false, false⟩
      status := { s.status with done := false, result := .ok, fsm := .busy }
      mpc := some l }
    ∧ k.op = i.opcode
    ∧ (∀ n, i.width = some n → k.n = n ∧ k.sz = if n ≤ 8 then 1 else if n ≤ 16 then 2 else 4)
    ∧ (i.width = none → k.n = s.latch.n ∧ k.sz = s.latch.sz)
    ∧ (∀ t r, i = .dmaen t r → k.t = t ∧ k.r = r)
    ∧ ((∀ t r, i ≠ .dmaen t r) → k.t = s.latch.t ∧ k.r = s.latch.r)
    ∧ k.instr = some i ∧ ownsLabel i l = true
    ∧ (i = .init → l = .init .i0) ∧ (i = .deinit → l = .deinit .di0)
    ∧ (i = .setConfig → l = .setConfig .s0) ∧ (i = .getConfig → l = .getConfig .g0)
    ∧ (∀ n, i = .setWidth n → l = .setWidth (.sw0 .w0)) ∧ (i = .flush → l = .f0)
    ∧ (∀ n, i = .blkWrite n ∨ i = .blkRead n ∨ i = .blkXfer n ∨ i = .blkXferIp n → l = .blk .b0)
    ∧ (∀ n, i = .dmaWrite n ∨ i = .dmaRead n ∨ i = .dmaXfer n ∨ i = .dmaXferIp n → l = .dma .m0)
    ∧ (i = .abort → l = .abort .a0) ∧ (i = .enSet → l = .es0) ∧ (i = .enClr → l = .ec0)
    ∧ (i = .drain → l = .dn0 .dr0) ∧ (i = .poll → l = .q0)
    ∧ (∀ t r, i = .dmaen t r → l = .de0) ∧ (i = .finish → l = .fn0 .fd0)

/-- R97, R98, R100, R252: where a check fails, the first that fails gives the code and nothing else
changes: (c) the state, (d) the width, (e) the mode, then the channels, then alignment. The commands
that each check concerns are those of the tables of R93, R94 and R201. -/
def Obligations.RejectionRecordsTheFirstFailingCheck : Prop :=
  ∀ (s : State) (i : Instr), s.running ≠ some i → s.ignores i = false →
    let rejected (c : ResultCode) := Host.Outcome.next (φ := Fault) (ρ := Refusal)
      { s with status := { s.status with result := c, done := true } }
    let usesBothChannels := ∃ n, i = .dmaRead n ∨ i = .dmaXfer n ∨ i = .dmaXferIp n
    let usesTxChannel := (∃ n, i = .dmaWrite n) ∨ usesBothChannels
    let readsTx (n : Nat) := i = .blkWrite n ∨ i = .blkXfer n ∨ i = .dmaWrite n ∨ i = .dmaXfer n
    let readsRx (n : Nat) := i = .blkRead n ∨ i = .blkXfer n ∨ i = .blkXferIp n ∨ i = .dmaRead n
      ∨ i = .dmaXfer n ∨ i = .dmaXferIp n
    let badState := s.status.fsm ≠
      (if i = .init then .uninit else if i = .abort then .waitDma else .idle)
    let badWidth := ∃ n, (i = .setWidth n ∨ readsTx n ∨ readsRx n) ∧ legalWidth s.params n = false
    let badMode := usesTxChannel ∧ s.regs.bind.getLsbD 5 = false
    let badChannel := (usesTxChannel ∧ s.regs.bind.getLsbD 3 = false)
      ∨ (usesBothChannels ∧ s.regs.bind.getLsbD 4 = false)
    let badAddress := ∃ n,
      (readsTx n ∧ s.regs.txlen ≠ 0 ∧ s.regs.txaddr.toNat % szOf n ≠ 0)
        ∨ (readsRx n ∧ s.regs.rxlen ≠ 0 ∧ s.regs.rxaddr.toNat % szOf n ≠ 0)
    (badState ∨ badWidth ∨ badMode → exec i s = rejected .illegal)
    ∧ (¬badState → ¬badWidth → ¬badMode → badChannel → exec i s = rejected .nochan)
    ∧ (¬badState → ¬badWidth → ¬badMode → ¬badChannel → badAddress → exec i s = rejected .align)
    ∧ (¬badState → ¬badWidth → ¬badMode → ¬badChannel → ¬badAddress →
        exec i s = .next (s.accept i))

/-- R97 (a), (b), R101: a word that is no command, written where R96 does not ignore it, is rejected as
ILLEGAL and has no other effect. -/
def Obligations.UndecodableWordIsRejected : Prop :=
  ∀ (s : State) (w : Word) (ts : List Turn) (e : DecodeError),
    s.env.agenda = .hostWrite 0x000 4 w :: ts → s.ignoresWord w = false → decode w = .error e →
    step s = .next { s with
      status := { s.status with result := .illegal, done := true }
      env := { s.env with agenda := ts }
      journal := s.journal ++ [.hostWrite 0x000 w] }

/-- R96: in BUSY and FATAL every `CMD` write, and in WAIT_DMA every one but ABORT's exact word, sets
`LOST` and changes nothing else. -/
def Obligations.IgnoredCommandSetsLost : Prop :=
  ∀ (s : State) (w : Word) (ts : List Turn),
    s.env.agenda = .hostWrite 0x000 4 w :: ts →
    (s.status.fsm = .busy ∨ s.status.fsm = .fatal
      ∨ (s.status.fsm = .waitDma ∧ w ≠ 0x00000030)) →
    step s = .next { s with
      status := { s.status with lost := true }
      env := { s.env with agenda := ts }
      journal := s.journal ++ [.hostWrite 0x000 w] }

/-! ## Lifecycle and configuration -/

/-- R123: INIT, whole. From the state in which it is accepted, with a frequency that `ComputeBR` takes,
its own steps end in IDLE with this trace and this state. -/
def Obligations.InitConstructsTheInstance : Prop :=
  ∀ (s : State) (d : Divisor), Ready s .init →
    computeBR s.env.nextClock s.regs.freq = .ok d → ∃ k t, execN .init k s = .next t
    ∧ t.status = { s.status with result := .ok, done := true, fsm := .idle } ∧ t.mpc = none
    ∧ t.curWidth = 8 ∧ t.regs = { s.regs with kclk := s.env.nextClock }
    ∧ t.clkOn = true
    ∧ t.pins = ⟨s.regs.bind.getLsbD 0, s.regs.bind.getLsbD 1, s.regs.bind.getLsbD 2⟩
    ∧ t.ctl = { assignFields
          (s.params.initExtra.foldl (fun c g => assignFields c (g.map fun f => .extra f.1 f.2))
            s.params.periphReset) (widthFields s.params 8) with
        cpol := s.regs.cfg.extractLsb' 0 1 ^^^ s.params.modeEnc.invCpol
        cpha := s.regs.cfg.extractLsb' 1 1 ^^^ s.params.modeEnc.invCpha
        lsbf := s.regs.cfg.extractLsb' 2 1 ^^^ s.params.modeEnc.invLsbf
        br := s.params.brEnc.code d
        en := 1 }
    ∧ t.trace = s.trace ++ [.cer, .cf s.env.nextClock]
        ++ (if s.params.gen = .gen3 then [.rwIfcr s.params.ifcrInit] else [])
        ++ s.params.initExtra.map (fun g => .fw (g.map fun f => .extra f.1 f.2))
        ++ [.fw (modeFields s.params s.regs), .fw [.br (s.params.brEnc.code d)],
            .fw (widthFields s.params 8), .fw [.en 1]]
    ∧ t.mem = s.mem ∧ t.params = s.params ∧ t.txch = s.txch ∧ t.rxch = s.rxch
    ∧ t.latch = { s.latch with op := 0x01 } ∧ t.join = ⟨false, false, false, false⟩
    ∧ t.env = s.env.afterClock

/-- R121, R124 (a), (b), R128, R255: a requested frequency of 0 or above the clock halts the block.
INIT halts at I1, with `KCLK` captured, only `CER` and `CF` recorded, and no control field written;
SET_CONFIG halts at S0 with no event and nothing but `STATUS` and the micro-program changed. -/
def Obligations.OverRequestHaltsTheBlock : Prop :=
  ∀ (s : State),
    (Ready s .init → (s.regs.freq = 0 ∨ s.env.nextClock.toNat < s.regs.freq.toNat) →
      ∃ t, execN .init 3 s = .next t
      ∧ t.status = { s.status with
          result := .fatal, done := true, fsm := .fatal
          fcause := if s.regs.freq = 0 then .freqZero else .freqAboveClock }
      ∧ t.mpc = none ∧ t.regs = { s.regs with kclk := s.env.nextClock } ∧ t.curWidth = s.curWidth
      ∧ t.ctl = s.params.periphReset ∧ t.clkOn = true
      ∧ t.trace = s.trace ++ [.cer, .cf s.env.nextClock] ∧ t.mem = s.mem)
    ∧ (At s .setConfig (.setConfig .s0) →
      (s.regs.freq = 0 ∨ s.regs.kclk.toNat < s.regs.freq.toNat) →
      exec .setConfig s = .next { s with
        status := { s.status with
          result := .fatal, done := true, fsm := .fatal
          fcause := if s.regs.freq = 0 then .freqZero else .freqAboveClock }
        mpc := none })

/-- R126: DEINIT, whole: the owned pins in order, then the clock; `KCLK` and `WIDTH` cleared, UNINIT. -/
def Obligations.DeinitReleasesTheInstance : Prop :=
  ∀ (s : State), Ready s .deinit → ∃ k t, execN .deinit k s = .next t
    ∧ t.status = { s.status with result := .ok, done := true, fsm := .uninit } ∧ t.mpc = none
    ∧ t.curWidth = 0 ∧ t.regs = { s.regs with kclk := 0 }
    ∧ t.clkOn = false ∧ t.pins = ⟨false, false, false⟩
    ∧ t.trace = s.trace ++ (if s.regs.bind.getLsbD 0 then [.pd .sck] else [])
        ++ (if s.regs.bind.getLsbD 1 then [.pd .mosi] else [])
        ++ (if s.regs.bind.getLsbD 2 then [.pd .miso] else []) ++ [.cd]
    ∧ t.mem = s.mem ∧ t.params = s.params ∧ t.txch = s.txch ∧ t.rxch = s.rxch
    ∧ t.latch = { s.latch with op := 0x02 } ∧ t.join = ⟨false, false, false, false⟩
    ∧ t.vars = s.vars ∧ t.env = s.env.afterFree

/-- R128, R130: SET_CONFIG, whole, for a frequency that `ComputeBR` takes: two field writes, OK, and
nothing else but the latched command. -/
def Obligations.SetConfigWritesModeThenDivisor : Prop :=
  ∀ (s : State) (d : Divisor), Ready s .setConfig →
    computeBR s.regs.kclk s.regs.freq = .ok d →
    let mode := modeFields s.params s.regs
    execN .setConfig 5 s = .next { s with
      status := { s.status with result := .ok, done := true, fsm := .idle }
      latch := { s.latch with op := 0x03 }
      join := ⟨false, false, false, false⟩
      mpc := none
      vars := { s.vars with dv := d }
      ctl := { s.ctl with
        cpol := s.regs.cfg.extractLsb' 0 1 ^^^ s.params.modeEnc.invCpol
        cpha := s.regs.cfg.extractLsb' 1 1 ^^^ s.params.modeEnc.invCpha
        lsbf := s.regs.cfg.extractLsb' 2 1 ^^^ s.params.modeEnc.invLsbf
        br := s.params.brEnc.code d }
      journal := s.journal ++ [.event (.fw mode), .event (.fw [.br (s.params.brEnc.code d)])] }

/-- R131, R125: SET_CONFIG, then GET_CONFIG, reads back the mode bits for every `CFG`, the divisor of
the ratio, and the frequency that divisor achieves from the captured clock, which is the request where
the clock is an exact multiple of it by a divisor. -/
def Obligations.ConfigurationRoundTrip : Prop :=
  ∀ (s : State) (d : Divisor), ParamsOk s.params → Ready s .setConfig →
    computeBR s.regs.kclk s.regs.freq = .ok d →
    ∃ t u, execN .setConfig 5 s = .next t ∧ execN .getConfig 3 t = .next u
    ∧ u.status = { s.status with result := .ok, done := true, fsm := .idle }
    ∧ u.regs = { s.regs with
        rdcfg := BitVec.ofNat 16 (divisorNat d) ++ 0#13 ++ s.regs.cfg
        rdfreq := BitVec.ofNat 32 (s.regs.kclk.toNat / divisorNat d) }
    ∧ (∀ e, s.regs.freq.toNat * divisorNat e = s.regs.kclk.toNat → u.regs.rdfreq = s.regs.freq)
    ∧ u.ctl = t.ctl ∧ u.curWidth = s.curWidth ∧ u.mem = s.mem
    ∧ u.trace = t.trace ++ [.fr [.cpol t.ctl.cpol, .cpha t.ctl.cpha, .lsbf t.ctl.lsbf, .br t.ctl.br]]

/-- R131: GET_CONFIG's two steps, from any control image. -/
def Obligations.GetConfigReadsTheFields : Prop :=
  ∀ (s : State),
    (At s .getConfig (.getConfig .g0) → exec .getConfig s = .next { s with
      regs := { s.regs with
        rdcfg := rdcfgWord s.params s.ctl
        rdfreq := computeFrequency s.regs.kclk (divisorOfCode s.params.brEnc s.ctl.br) }
      journal := s.journal ++
        [.event (.fr [.cpol s.ctl.cpol, .cpha s.ctl.cpha, .lsbf s.ctl.lsbf, .br s.ctl.br])]
      mpc := some (.getConfig .g1) })
    ∧ (At s .getConfig (.getConfig .g1) → exec .getConfig s = .next (s.endedWith .ok .idle))

/-! ## Divisors and frequencies -/

/-- R120, R121: the divisor of every ratio, and the two fatal causes. -/
def Obligations.DivisorOfEveryRatio : Prop :=
  ∀ k f : Word,
    (f = 0 → computeBR k f = .error .freqZero)
    ∧ (f ≠ 0 → k.toNat < f.toNat → computeBR k f = .error .freqAboveClock)
    ∧ (f ≠ 0 → f.toNat ≤ k.toNat →
        let r := k.toNat / f.toNat
        ∃ d, computeBR k f = .ok d
        ∧ (r ≤ 2 → d = .d2) ∧ (3 ≤ r → r ≤ 5 → d = .d4) ∧ (6 ≤ r → r ≤ 11 → d = .d8)
        ∧ (12 ≤ r → r ≤ 23 → d = .d16) ∧ (24 ≤ r → r ≤ 39 → d = .d32)
        ∧ (40 ≤ r → r ≤ 95 → d = .d64) ∧ (96 ≤ r → r ≤ 191 → d = .d128) ∧ (192 ≤ r → d = .d256))

/-- R129: for requests `F1 < F2 ≤ K`, the ratio does not rise, neither does the divisor, and the achieved
frequency does not fall. -/
def Obligations.AchievedFrequencyIsMonotone : Prop :=
  ∀ (k f1 f2 : Word) (e1 e2 : Divisor), f1.toNat < f2.toNat → f2.toNat ≤ k.toNat →
    computeBR k f1 = .ok e1 → computeBR k f2 = .ok e2 →
    1 ≤ k.toNat / f2.toNat ∧ k.toNat / f2.toNat ≤ k.toNat / f1.toNat
    ∧ divisorNat e2 ≤ divisorNat e1
    ∧ (computeFrequency k e1).toNat = k.toNat / divisorNat e1
    ∧ (computeFrequency k e1).toNat ≤ (computeFrequency k e2).toNat

/-- R127: for ratios up to 255 the achieved frequency stays below three halves of the request. -/
def Obligations.AchievedFrequencyBound : Prop :=
  ∀ (k f : Word) (d : Divisor), computeBR k f = .ok d → k.toNat / f.toNat ≤ 255 →
    2 * (computeFrequency k d).toNat < 3 * f.toNat

/-! ## Word width -/

/-- R150, R102, R12: the legal widths of each generation, and the size of an element. -/
def Obligations.LegalWidthsAndSizes : Prop :=
  ∀ (p : Params) (n : Nat),
    (p.gen = .gen1 → (legalWidth p n = true ↔ n = 8 ∨ n = 16))
    ∧ (p.gen = .gen2 → (legalWidth p n = true ↔ p.wGen2Min ≤ n ∧ n ≤ p.wGen2Max))
    ∧ (p.gen = .gen3 → (legalWidth p n = true ↔ 4 ≤ n ∧ n ≤ 32))
    ∧ (4 ≤ n → n ≤ 8 → szOf n = 1) ∧ (9 ≤ n → n ≤ 16 → szOf n = 2)
    ∧ (17 ≤ n → n ≤ 32 → szOf n = 4)

/-- R6, R42, R120, R152, R153: the default parameters: they are sound, `BRENC` is `log2(d) - 1`,
`MODEENC` writes the bits of `CFG` as they are, and `WIDTHENC` is the table of R152. -/
def Obligations.DefaultParameters : Prop :=
  ∀ (g : Gen) (d : Divisor) (x : HostRegs) (n : Nat),
    ParamsOk (Config.defaults g) ∧ (Config.defaults g).gen = g
    ∧ ((Config.defaults g).brEnc.code d).toNat = Nat.log2 (divisorNat d) - 1
    ∧ modeFields (Config.defaults g) x = [.cpol (x.cfg.extractLsb' 0 1),
        .cpha (x.cfg.extractLsb' 1 1), .lsbf (x.cfg.extractLsb' 2 1)]
    ∧ widthFields (Config.defaults .gen1) 8 = [.ws 0] ∧ widthFields (Config.defaults .gen1) 16 = [.ws 1]
    ∧ (4 ≤ n → n ≤ 8 → widthFields (Config.defaults .gen2) n = [.ds (BitVec.ofNat 4 (n - 1)), .fth 1])
    ∧ (9 ≤ n → n ≤ 16 → widthFields (Config.defaults .gen2) n = [.ds (BitVec.ofNat 4 (n - 1)), .fth 0])
    ∧ (4 ≤ n → n ≤ 32 → widthFields (Config.defaults .gen3) n = [.dsize (BitVec.ofNat 5 (n - 1))])
    ∧ (Config.defaults g).ifcrInit = 0xFFFFFFFF ∧ (Config.defaults g).startEveryWord = true
    ∧ (Config.defaults g).wGen2Min = 4 ∧ (Config.defaults g).wGen2Max = 16

/-- R156 to R159: SET_WIDTH to another width, whole: the generation's sequence, on GEN3 with a first
sample that shows transfer complete. -/
def Obligations.WidthChangeSequence : Prop :=
  ∀ (s : State) (n : Nat), Ready s (.setWidth n) → n ≠ s.curWidth →
    (s.params.gen = .gen3 → s.env.nextSample.tc = true) → ∃ k t, execN (.setWidth n) k s = .next t
    ∧ t.status = { s.status with result := .ok, done := true, fsm := .idle } ∧ t.mpc = none
    ∧ t.curWidth = n
    ∧ t.ctl = { assignFields s.ctl (widthFields s.params n) with
        en := 1, susp := if s.params.gen = .gen3 then 0 else s.ctl.susp }
    ∧ t.trace = s.trace ++ (if s.params.gen = .gen3 then
          [.fw [.susp 1], .ss s.coming, .fw [.en 0], .fw (widthFields s.params n), .fw [.susp 0],
           .fw [.en 1]]
        else [.fw [.en 0], .fw (widthFields s.params n), .fw [.en 1]])
    ∧ t.regs = { s.regs with
        ssample := if s.params.gen = .gen3 then ssampleWord s.coming else s.regs.ssample }
    ∧ t.mem = s.mem ∧ t.params = s.params ∧ t.txch = s.txch ∧ t.rxch = s.rxch ∧ t.clkOn = s.clkOn
    ∧ t.pins = s.pins ∧ t.join = ⟨false, false, false, false⟩
    ∧ t.latch = { s.latch with op := 0x05, n := n, sz := szOf n }

/-- R155 to R158: the steps of the width change, in SET_WIDTH and in every blocking and DMA command:
W1.0 to W1.2, W2.0 to W2.2, and W3.0 to W3.5, which at W3.1 spins while the sample does not show
transfer complete, whatever error flags it shows. -/
def Obligations.WidthChangeSteps : Prop :=
  ∀ (s : State) (i : Instr) (wrap : WidthLabel → Label) (ret : Label),
    ((∃ n, i = .setWidth n) ∧ wrap = (fun w => .setWidth (.sw0 w)) ∧ ret = .setWidth .sw1
      ∨ isBlocking i = true ∧ wrap = (fun w => .blk (.b2 w)) ∧ ret = .blk .l0
      ∨ isDma i = true ∧ wrap = (fun w => .dma (.m1 w)) ∧ ret = .dma .m2) →
    let fields := widthFields s.params s.latch.n
    let disabled (next : WidthLabel) := Host.Outcome.next (φ := Fault) (ρ := Refusal)
      (s.wrote { s.ctl with en := 0 } (.fw [.en 0]) (wrap next))
    let widthWritten (next : WidthLabel) := Host.Outcome.next (φ := Fault) (ρ := Refusal)
      (s.wrote (assignFields s.ctl fields) (.fw fields) (wrap next))
    let suspended (v : BitVec 1) (next : WidthLabel) := Host.Outcome.next (φ := Fault) (ρ := Refusal)
      (s.wrote { s.ctl with susp := v } (.fw [.susp v]) (wrap next))
    let enabled := Host.Outcome.next (φ := Fault) (ρ := Refusal)
      { s.wrote { s.ctl with en := 1 } (.fw [.en 1]) ret with curWidth := s.latch.n }
    (At s i (wrap .w0) → s.latch.n ≠ s.curWidth →
      exec i s = match s.params.gen with
        | .gen1 => disabled .w11
        | .gen2 => disabled .w21
        | .gen3 => suspended 1 .w31)
    ∧ (At s i (wrap .w11) → exec i s = widthWritten .w12)
    ∧ (At s i (wrap .w21) → exec i s = widthWritten .w22)
    ∧ (At s i (wrap .w12) ∨ At s i (wrap .w22) ∨ At s i (wrap .w35) → exec i s = enabled)
    ∧ (At s i (wrap .w31) → exec i s = .next { s.sampled s.coming with
        mpc := some (wrap (if s.coming.tc then .w32 else .w31)) })
    ∧ (At s i (wrap .w32) → exec i s = disabled .w33)
    ∧ (At s i (wrap .w33) → exec i s = widthWritten .w34)
    ∧ (At s i (wrap .w34) → exec i s = suspended 0 .w35)

/-- R155, R160: SET_WIDTH to the current width records no event and writes no field. -/
def Obligations.SetWidthToCurrentWidthHasNoSideEffect : Prop :=
  ∀ (s : State), Ready s (.setWidth s.curWidth) → execN (.setWidth s.curWidth) 2 s = .next { s with
    status := { s.status with result := .ok, done := true, fsm := .idle }
    latch := { s.latch with op := 0x05, n := s.curWidth, sz := szOf s.curWidth }
    join := ⟨false, false, false, false⟩
    mpc := none }

/-! ## Status samples -/

/-- R173, R233: POLL takes one sample; its result is the first error in the source's order, or OK, and
`SSAMPLE` holds the sample's flags. -/
def Obligations.PollReportsTheFirstError : Prop :=
  ∀ (s : State), Ready s .poll →
    let x := s.coming
    execN .poll 3 s = .next { s with
      status := { s.status with
        done := true, fsm := .idle
        result := if x.ovr then .overrun else if x.fre then .framing
          else if x.modf then .modeFault else if x.crce then .crc else .ok }
      latch := { s.latch with op := 0x43 }
      join := ⟨false, false, false, false⟩
      mpc := none
      vars := { s.vars with
        s := x
        e := if x.ovr then .overrun else if x.fre then .framing
          else if x.modf then .modeFault else if x.crce then .crc else .none }
      regs := { s.regs with ssample := ssampleWord x }
      env := s.env.afterSample
      journal := s.journal ++ [.event (.ss x)] }

/-- R170, R171, R203, R232: the drain, in DRAIN, in every blocking command and in every DMA command that
receives. On GEN1 and GEN2 it samples, discards a word of the programmed width's size while
receive-ready is set, and checks no error flag. DRAIN on GEN3 completes at once, at the label of the drain that takes no step (the model's choice,
notes/assumptions/6.md). -/
def Obligations.DrainDiscardsWhileReceiveReady : Prop :=
  ∀ (s : State) (i : Instr) (wrap : DrainLabel → Label) (ret : Label),
    (i = .drain ∧ wrap = .dn0 ∧ ret = .dn1
      ∨ isBlocking i = true ∧ wrap = (fun d => .blk (.b1 d)) ∧ ret = .blk (.b2 .w0)
      ∨ usesRxChannel i = true ∧ wrap = (fun d => .dma (.m3 d)) ∧ ret = .dma .m4) →
    (At s i (wrap .dr0) → s.params.gen ≠ .gen3 → exec i s =
      .next { s.sampled s.coming with mpc := some (if s.coming.rxrdy then wrap .dr1 else ret) })
    ∧ (At s i (wrap .dr1) → exec i s = .next { s with
        env := s.env.afterData
        journal := s.journal ++ [.event (.dr (szOf s.curWidth) (s.comingData (szOf s.curWidth)))]
        mpc := some (wrap .dr0) })
    ∧ (i = .drain → At s i (wrap .dr0) ∧ s.params.gen = .gen3 ∨ At s i ret →
        exec i s = .next (s.endedWith .ok .idle))

/-! ## Blocking transfers -/

/-- R177, R171, R178: the preamble of every blocking command but its drain and width change: `XCOUNT`
cleared and `EN` written; on GEN3, which does not drain, straight to the width change; and, after the
width change or where there is none, `i` cleared at L0 with `N` the command's number of positions. That
a line without a step leaves its label to the next line, and that `N` is taken at L0, are the model's
choices, notes/assumptions/6.md and 15.md. -/
def Obligations.BlockingPreamble : Prop :=
  ∀ (s : State) (i : Instr), isBlocking i = true →
    (At s i (.blk .b0) → exec i s = .next ({ s with
        regs := { s.regs with xcount := 0 } }.wrote { s.ctl with en := 1 } (.fw [.en 1])
          (.blk (.b1 .dr0))))
    ∧ (At s i (.blk (.b1 .dr0)) → s.params.gen = .gen3 → s.latch.n ≠ s.curWidth → exec i s =
        .next (s.wrote { s.ctl with susp := 1 } (.fw [.susp 1]) (.blk (.b2 .w31))))
    ∧ (At s i (.blk .l0) ∨ At s i (.blk (.b2 .w0)) ∧ s.latch.n = s.curWidth
          ∨ At s i (.blk (.b1 .dr0)) ∧ s.params.gen = .gen3 ∧ s.latch.n = s.curWidth →
        ∃ v : Word, v.toNat = positions i s.regs ∧ exec i s = .next { s with
          vars := { s.vars with i := 0, n := v }, mpc := some (.blk .l1) })

/-- R173 to R175, R179, R253: the two polls of a blocking command, at T0 and at T3. Where T2 writes no
start control (R176) it takes no step, and the poll of T3 is taken at its label: the model's choice,
notes/assumptions/6.md. A sample with an error flag ends the command with that error,
before the ready flag is looked at; nothing else changes. -/
def Obligations.BlockingPollChecksErrorsFirst : Prop :=
  ∀ (s : State) (i : Instr) (l again next : Label) (ready : Bool), isBlocking i = true →
    (l = .blk .t0 ∧ again = .blk .t0 ∧ next = .blk .t1 ∧ ready = s.coming.txrdy
      ∨ (l = .blk .t3 ∨ l = .blk .t2 ∧ ¬(s.params.gen = .gen3
            ∧ (s.params.startEveryWord = true ∨ s.vars.i = 0)))
        ∧ again = .blk .t3 ∧ next = .blk .t4 ∧ ready = s.coming.rxrdy) → At s i l →
    let x := s.coming
    let polled : State := { s.sampled x with vars := { s.vars with s := x, e := errclass x } }
    (x.ovr = true → exec i s = .next (polled.endedWith .overrun .idle))
    ∧ (x.ovr = false → x.fre = true → exec i s = .next (polled.endedWith .framing .idle))
    ∧ (x.ovr = false → x.fre = false → x.modf = true →
        exec i s = .next (polled.endedWith .modeFault .idle))
    ∧ (x.ovr = false → x.fre = false → x.modf = false → x.crce = true →
        exec i s = .next (polled.endedWith .crc .idle))
    ∧ (x.ovr = false → x.fre = false → x.modf = false → x.crce = false →
        exec i s = .next { polled with mpc := some (if ready then next else again) })

/-- R175, R176, R178, R181: the other steps of a position that all blocking commands share: the loop
test, the data write, GEN3's start control, the data read, and the count. That the loop test is a step
also where `i` is not `N`, and that the step of T1 leaves `mpc` at T2 also where T2 takes no step, are
the model's choices, notes/assumptions/26.md and 6.md. -/
def Obligations.BlockingPositionSteps : Prop :=
  ∀ (s : State) (i : Instr), isBlocking i = true →
    (At s i (.blk .l1) → exec i s = .next
      { s with mpc := some (if s.vars.i = s.vars.n then .blk .fin else .blk .l2) })
    ∧ (At s i (.blk .t1) → exec i s = .next { s with
        journal := s.journal ++ [.event (.dw s.latch.sz s.vars.tx)], mpc := some (.blk .t2) })
    ∧ (At s i (.blk .t2) → s.params.gen = .gen3 →
        (s.params.startEveryWord = true ∨ s.vars.i = 0) → exec i s = .next
          (s.wrote { s.ctl with start := 1 } (.fw [.start 1]) (.blk .t3)))
    ∧ (At s i (.blk .t4) → exec i s = .next { s with
        vars := { s.vars with rx := s.comingData s.latch.sz }
        env := s.env.afterData
        journal := s.journal ++ [.event (.dr s.latch.sz (s.comingData s.latch.sz))]
        mpc := some (.blk .l4) })
    ∧ (At s i (.blk .l5) → exec i s = .next { s with
        vars := { s.vars with i := s.vars.i + 1 }
        regs := { s.regs with xcount := s.vars.i + 1 }
        mpc := some (.blk .l1) })
    ∧ (At s i (.blk .fin) → exec i s = .next (s.endedWith .ok .idle))

/-- R183 to R186, R62, R66, R68: what each blocking command sends and stores at its current position:
the element read from memory, or 0; the element stored in memory, or nothing. -/
def Obligations.BlockingSourcesAndSinks : Prop :=
  ∀ (s : State) (n : Nat),
    let sz := s.latch.sz
    let elem (a : Word) : Word := BitVec.ofNat 32 (a.toNat + s.vars.i.toNat * sz)
    let sent (a : Word) : Host.Outcome State Fault Refusal := .next { s with
      vars := { s.vars with tx := BitVec.ofNat 32 (s.mem.load (elem a) sz) }
      journal := s.journal ++ [.event (.mr (elem a) sz (BitVec.ofNat 32 (s.mem.load (elem a) sz)))]
      mpc := some (.blk .t0) }
    let sentZero : Host.Outcome State Fault Refusal :=
      .next { s with vars := { s.vars with tx := 0 }, mpc := some (.blk .t0) }
    let stored : Host.Outcome State Fault Refusal := .next { s with
      mem := s.mem.store (elem s.regs.rxaddr) sz s.vars.rx.toNat
      view := s.view.push ⟨elem s.regs.rxaddr, sz, s.vars.rx, false⟩
      journal := s.journal ++ [.event (.mw (elem s.regs.rxaddr) sz s.vars.rx)]
      mpc := some (.blk .l5) }
    let dropped : Host.Outcome State Fault Refusal := .next { s with mpc := some (.blk .l5) }
    (At s (.blkWrite n) (.blk .l2) → exec (.blkWrite n) s = sent s.regs.txaddr)
    ∧ (At s (.blkWrite n) (.blk .l4) → exec (.blkWrite n) s = dropped)
    ∧ (At s (.blkRead n) (.blk .l2) → exec (.blkRead n) s = sentZero)
    ∧ (At s (.blkRead n) (.blk .l4) → exec (.blkRead n) s = stored)
    ∧ (At s (.blkXfer n) (.blk .l2) → exec (.blkXfer n) s =
        if s.vars.i.toNat < s.regs.txlen.toNat then sent s.regs.txaddr else sentZero)
    ∧ (At s (.blkXfer n) (.blk .l4) → exec (.blkXfer n) s =
        if s.vars.i.toNat < s.regs.rxlen.toNat then stored else dropped)
    ∧ (At s (.blkXferIp n) (.blk .l2) → exec (.blkXferIp n) s = sent s.regs.rxaddr)
    ∧ (At s (.blkXferIp n) (.blk .l4) → exec (.blkXferIp n) s = stored)

/-- R178 to R182: the position loop of every blocking command, whole. If every coming sample shows no
error and both ready flags, the command ends OK with `XCOUNT` at its number of positions, and its
data-register accesses are that many pairs of a write and a read, in strict alternation. -/
def Obligations.BlockingLoopCompletes : Prop :=
  ∀ (s : State) (i : Instr), isBlocking i = true → At s i (.blk .l0) → s.regs.xcount = 0 →
    2 * positions i s.regs ≤ s.env.samples.length →
    (∀ x ∈ s.env.samples, errclass x = .none ∧ x.txrdy = true ∧ x.rxrdy = true) →
    ∃ k t, execN i k s = .next t
    ∧ t.status = { s.status with result := .ok, done := true, fsm := .idle } ∧ t.mpc = none
    ∧ t.regs.xcount.toNat = positions i s.regs
    ∧ t.regs = { s.regs with xcount := t.regs.xcount, ssample := t.regs.ssample }
    ∧ t.trace.filterMap dataAccess = s.trace.filterMap dataAccess
        ++ (List.replicate (positions i s.regs) [true, false]).flatten
    ∧ t.ctl = { s.ctl with start := t.ctl.start }
    ∧ t.curWidth = s.curWidth ∧ t.params = s.params ∧ t.latch = s.latch ∧ t.join = s.join
    ∧ t.txch = s.txch ∧ t.rxch = s.rxch ∧ t.clkOn = s.clkOn ∧ t.pins = s.pins

/-- R183, R62, R66, R68: BLK_WRITE sends the transmit buffer. With no error and both ready flags in every
coming sample, the words it writes to the transmit data register are the elements of the buffer, in
order, unmasked; no memory changes. -/
def Obligations.BlockingWriteSendsTheBuffer : Prop :=
  ∀ (s : State) (n : Nat), At s (.blkWrite n) (.blk .l0) →
    2 * s.regs.txlen.toNat ≤ s.env.samples.length →
    (∀ x ∈ s.env.samples, errclass x = .none ∧ x.txrdy = true ∧ x.rxrdy = true) →
    let element (j : Nat) : Word := BitVec.ofNat 32
      (s.mem.load (BitVec.ofNat 32 (s.regs.txaddr.toNat + j * s.latch.sz)) s.latch.sz)
    ∃ k t, execN (.blkWrite n) k s = .next t ∧ t.status.result = .ok ∧ t.status.fsm = .idle
    ∧ t.trace.filterMap sentWord = s.trace.filterMap sentWord
        ++ (List.range s.regs.txlen.toNat).map (fun j => (s.latch.sz, element j))
    ∧ t.mem = s.mem

/-- R184, R186, R62, R66, R68: BLK_READ and BLK_XFER_IP fill the receive buffer. With no error and both
ready flags in every coming sample, element `j` of the buffer ends as the `j`-th received value, unmasked,
and every byte outside the buffer reads as before. -/
def Obligations.BlockingReadFillsTheBuffer : Prop :=
  ∀ (s : State) (i : Instr), (∃ n, i = .blkRead n ∨ i = .blkXferIp n) → At s i (.blk .l0) →
    s.mem.wf → s.latch.sz ≤ 4 → s.regs.rxlen.toNat * s.latch.sz ≤ 2 ^ 32 →
    2 * s.regs.rxlen.toNat ≤ s.env.samples.length → s.regs.rxlen.toNat ≤ s.env.reads.length →
    (∀ x ∈ s.env.samples, errclass x = .none ∧ x.txrdy = true ∧ x.rxrdy = true) →
    let elem (j : Nat) : Nat := s.regs.rxaddr.toNat + j * s.latch.sz
    ∃ k t, execN i k s = .next t ∧ t.status.result = .ok ∧ t.status.fsm = .idle
    ∧ (∀ j < s.regs.rxlen.toNat, ∃ v, s.env.reads[j]? = some v ∧
        t.mem.load (BitVec.ofNat 32 (elem j)) s.latch.sz = v.toNat % 2 ^ (8 * s.latch.sz))
    ∧ ∀ b, (∀ j < s.regs.rxlen.toNat, ∀ k < s.latch.sz, b ≠ (elem j + k) % 2 ^ 32) →
        t.mem.read b = s.mem.read b

/-- R180, R188: a step of a running blocking command leaves it in BUSY, or ends it in IDLE with OK or
one of the four errors; it never waits, halts or rejects. -/
def Obligations.BlockingEndsOnlyInIdle : Prop :=
  ∀ (s t : State) (i : Instr), isBlocking i = true → s.running = some i → s.status.fsm = .busy →
    exec i s = .next t →
    (t.status = s.status ∧ t.mpc ≠ none)
    ∨ (t.mpc = none ∧ t.status.fsm = .idle ∧ t.status.done = true ∧
        (t.status.result = .ok ∨ t.status.result = .overrun ∨ t.status.result = .framing
          ∨ t.status.result = .modeFault ∨ t.status.result = .crc))

/-! ## DMA transfers -/

/-- R200, R218: the first step of every DMA command: the length check of DMA_XFER, then the zero check,
then the transfer. That `mpc` is M1 then also where the width does not change, so that M1 takes no
step (R155), is the model's choice, notes/assumptions/6.md. -/
def Obligations.DmaChecksLengthsFirst : Prop :=
  ∀ (s : State) (n : Nat),
    let fatal : Host.Outcome State Fault Refusal := .next { s with
      status := { s.status with
        fcause := .lenMismatch, result := .fatal, done := true, fsm := .fatal }
      mpc := none }
    let start (len : Word) : Host.Outcome State Fault Refusal :=
      if len = 0 then .next ({ s with vars := { s.vars with n := 0 } }.endedWith .ok .idle)
      else .next { s with vars := { s.vars with n := len }, mpc := some (.dma (.m1 .w0)) }
    (At s (.dmaWrite n) (.dma .m0) → exec (.dmaWrite n) s = start s.regs.txlen)
    ∧ (At s (.dmaRead n) (.dma .m0) → exec (.dmaRead n) s = start s.regs.rxlen)
    ∧ (At s (.dmaXferIp n) (.dma .m0) → exec (.dmaXferIp n) s = start s.regs.rxlen)
    ∧ (At s (.dmaXfer n) (.dma .m0) → s.regs.rxlen = s.regs.txlen →
        exec (.dmaXfer n) s = start s.regs.rxlen)
    ∧ (At s (.dmaXfer n) (.dma .m0) → s.regs.rxlen ≠ s.regs.txlen → exec (.dmaXfer n) s = fatal)

/-- R202 to R207, R201: the start sequence of every DMA command, whole, from M2 (which M1 runs
where the width does not change) to the join: the receive side armed and submitted before the transmit
side, then the request, the peripheral and, on GEN3, start; with the descriptors of R204 to R206. That M2 runs at the label of M1 is the model's
choice, notes/assumptions/6.md. -/
def Obligations.DmaStartSequence : Prop :=
  ∀ (s : State) (i : Instr) (src : MemSide),
    At s i (.dma .m2) ∨ At s i (.dma (.m1 .w0)) ∧ s.latch.n = s.curWidth →
    ((∃ n, i = .dmaWrite n ∨ i = .dmaXfer n) ∧ src = .addr s.regs.txaddr
      ∨ (∃ n, i = .dmaRead n) ∧ src = .const 0
      ∨ (∃ n, i = .dmaXferIp n) ∧ src = .addr s.regs.rxaddr) →
    (usesRxChannel i = true → s.params.gen ≠ .gen3 → s.env.nextSample.rxrdy = false) →
    let rx := usesRxChannel i
    let drains := rx = true ∧ s.params.gen ≠ .gen3
    let rxd : Desc := ⟨.p2m, s.params.rxdrAddr, .addr s.regs.rxaddr, s.vars.n, s.latch.sz,
      s.params.rxReq, .default⟩
    let txd : Desc := ⟨.m2p, s.params.txdrAddr, src, s.vars.n, s.latch.sz, s.params.txReq, .default⟩
    ∃ k t, execN i k s = .next t
    ∧ t.status = { s.status with fsm := .waitDma } ∧ t.mpc = some (.dma .m11)
    ∧ t.trace = s.trace ++ [.fw [.en 0]]
        ++ (if drains then [.ss s.coming] else [])
        ++ (if rx then [.fw [.rxdmaen 1], .ds .rx rxd] else [])
        ++ [.ds .tx txd, .fw [.txdmaen 1], .fw [.en 1]]
        ++ (if s.params.gen = .gen3 then [.fw [.start 1]] else [])
    ∧ t.join = { s.join with
        txsub := true, txdone := false
        rxsub := if rx then true else s.join.rxsub
        rxdone := if rx then false else s.join.rxdone }
    ∧ t.txch = some ⟨txd, []⟩ ∧ t.rxch = (if rx then some ⟨rxd, []⟩ else s.rxch)
    ∧ t.ctl = { s.ctl with
        en := 1, txdmaen := 1
        rxdmaen := if rx then 1 else s.ctl.rxdmaen
        start := if s.params.gen = .gen3 then 1 else s.ctl.start }
    ∧ t.mem = s.mem ∧ t.curWidth = s.curWidth ∧ t.latch = s.latch ∧ t.params = s.params
    ∧ t.regs = { s.regs with
        ssample := if drains then ssampleWord s.coming else s.regs.ssample }

/-- R208: at the join a DMA command does nothing until every submitted channel has signalled. -/
def Obligations.JoinWaitsForEveryChannel : Prop :=
  ∀ (s : State) (i : Instr), isDma i = true → At s i (.dma .m11) →
    ((s.join.txsub = true → s.join.txdone = true) ∧ (s.join.rxsub = true → s.join.rxdone = true) →
      exec i s = .next { s with
        status := { s.status with fsm := .busy }, mpc := some (.dma (.m12 .fd0)) })
    ∧ ((s.join.txsub = true ∧ s.join.txdone = false)
        ∨ (s.join.rxsub = true ∧ s.join.rxdone = false) → exec i s = .next s)

/-- R209, R210, R235: `FinishDma`, in every DMA command and in FINISH: wait for transfer complete on
GEN3 and for not busy elsewhere, whatever error flags are set; clear `EN`; clear both request bits; end
OK. -/
def Obligations.FinishWaitsThenClears : Prop :=
  ∀ (s : State) (i : Instr) (wrap : FinishLabel → Label) (last : Label),
    (isDma i = true ∧ wrap = (fun f => .dma (.m12 f)) ∧ last = .dma .m13
      ∨ i = .finish ∧ wrap = .fn0 ∧ last = .fn1) →
    (At s i (wrap .fd0) → exec i s = .next { s.sampled s.coming with
      mpc := some (wrap (if s.params.gen = .gen3 then
          (if s.coming.tc then .fd1 else .fd0)
        else if s.coming.bsy then .fd0 else .fd1)) })
    ∧ (At s i (wrap .fd1) → exec i s =
        .next (s.wrote { s.ctl with en := 0 } (.fw [.en 0]) (wrap .fd2)))
    ∧ (At s i (wrap .fd2) → exec i s =
        .next (s.wrote { s.ctl with txdmaen := 0, rxdmaen := 0 } (.fw [.txdmaen 0, .rxdmaen 0]) last))
    ∧ (At s i last → exec i s = .next (s.endedWith .ok .idle))

/-- R210: a step that ends a running DMA command ends it with OK, or halts the block on unequal
lengths; no peripheral error is ever its result. -/
def Obligations.DmaReportsNoPeripheralError : Prop :=
  ∀ (s t : State) (i : Instr), isDma i = true → s.running = some i → exec i s = .next t →
    t.mpc = none →
    (t.status.result = .ok ∧ t.status.fsm = .idle)
    ∨ (t.status.result = .fatal ∧ t.status.fcause = .lenMismatch ∧ s.regs.txlen ≠ s.regs.rxlen
        ∧ ∃ n, i = .dmaXfer n)

/-- R216: ABORT, whole: each unfinished channel halted, transmit first, then `EN` and both request bits
cleared, with no wait; the join state kept, ABORTED. -/
def Obligations.AbortHaltsUnfinishedChannels : Prop :=
  ∀ (s : State), Ready s .abort →
    let haltTx := s.join.txsub && !s.join.txdone
    let haltRx := s.join.rxsub && !s.join.rxdone
    ∃ k t, execN .abort k s = .next t
    ∧ t.status = { s.status with result := .aborted, done := true, fsm := .idle } ∧ t.mpc = none
    ∧ t.join = s.join
    ∧ t.trace = s.trace ++ (if haltTx then [.dh .tx] else []) ++ (if haltRx then [.dh .rx] else [])
        ++ [.fw [.en 0], .fw [.txdmaen 0, .rxdmaen 0]]
    ∧ t.txch = (if haltTx then none else s.txch) ∧ t.rxch = (if haltRx then none else s.rxch)
    ∧ t.ctl = { s.ctl with en := 0, txdmaen := 0, rxdmaen := 0 }
    ∧ t.mem = s.mem ∧ t.regs = s.regs ∧ t.curWidth = s.curWidth ∧ t.params = s.params
    ∧ t.vars = s.vars ∧ t.env = s.env

/-- R34, R211: a channel in flight that has moved all its elements may signal completion: its latch is
set, it is idle from then on, and nothing else changes. A channel with nothing in flight signals
nothing. -/
def Obligations.CompletionSetsTheLatchOnce : Prop :=
  ∀ (s : State) (ts : List Turn),
    (∀ f, s.env.agenda = .dmaDone .tx :: ts → s.txch = some f →
      f.moved.length = f.desc.moves → s.join.txsub = true →
      step s = .next { s with
        txch := none, join := { s.join with txdone := true }
        journal := s.journal ++ [.completion .tx], env := { s.env with agenda := ts } })
    ∧ (∀ f, s.env.agenda = .dmaDone .rx :: ts → s.rxch = some f →
      f.moved.length = f.desc.moves → s.join.rxsub = true →
      step s = .next { s with
        rxch := none, join := { s.join with rxdone := true }
        journal := s.journal ++ [.completion .rx], env := { s.env with agenda := ts } })
    ∧ (s.env.agenda = .dmaDone .tx :: ts → s.txch = none →
        step s = .next { s with env := { s.env with agenda := ts } })
    ∧ (s.env.agenda = .dmaDone .rx :: ts → s.rxch = none →
        step s = .next { s with env := { s.env with agenda := ts } })

/-- R211, R204, R206, R62: a receive channel stores a received value, and nothing else, in the element
it moves; a transmit channel reads its element and changes no memory. Each moves an element once: a
move of an element already moved or beyond the count, or of a channel that is idle or has no memory
side, changes nothing. One element a turn, each once, is the model's reading of R211,
notes/assumptions/9.md. -/
def Obligations.DmaMovesElements : Prop :=
  ∀ (s : State) (ts : List Turn) (k : Nat),
    (∀ (f : Flight) (a : Word), f.desc.mem = .addr a → k < f.desc.count.toNat → k ∉ f.moved →
      let e : Word := BitVec.ofNat 32 (a.toNat + k * f.desc.esize)
      (s.env.agenda = .dmaMove .rx k :: ts → s.rxch = some f → f.desc.dir = .p2m →
        step s = .next { s with
          rxch := some { f with moved := k :: f.moved }
          mem := s.mem.store e f.desc.esize (s.comingData f.desc.esize).toNat
          view := s.view.push ⟨e, f.desc.esize, s.comingData f.desc.esize, false⟩
          journal := s.journal ++ [.dmaMove .rx k (s.comingData f.desc.esize)]
          env := { s.env with
            agenda := ts, reads := s.env.reads.tail, draws := s.env.draws + 1 } })
      ∧ (s.env.agenda = .dmaMove .tx k :: ts → s.txch = some f → f.desc.dir = .m2p →
        step s = .next { s with
          txch := some { f with moved := k :: f.moved }
          journal := s.journal ++ [.dmaMove .tx k (BitVec.ofNat 32 (s.mem.load e f.desc.esize))]
          env := { s.env with agenda := ts } }))
    ∧ ∀ c : Option Flight,
      (s.env.agenda = .dmaMove .rx k :: ts ∧ s.rxch = c
        ∨ s.env.agenda = .dmaMove .tx k :: ts ∧ s.txch = c) →
      (∀ f, c = some f → k ∈ f.moved ∨ f.desc.count.toNat ≤ k ∨ ∃ v, f.desc.mem = .const v) →
      step s = .next { s with env := { s.env with agenda := ts } }

/-- R217, R76: two completions in either order leave the same state but for the order in which the
journal lists them, and the same trace. -/
def Obligations.JoinOrderDoesNotMatter : Prop :=
  ∀ (s : State) (ts : List Turn),
    let before (c d : Channel) : State :=
      { s with env := { s.env with agenda := .dmaDone c :: .dmaDone d :: ts } }
    ∃ a a' b b', step (before .tx .rx) = .next a ∧ step a = .next a'
    ∧ step (before .rx .tx) = .next b ∧ step b = .next b'
    ∧ a' = { b' with journal := a'.journal } ∧ a'.trace = s.trace ∧ b'.trace = s.trace

/-! ## Primitive commands -/

/-- R132, R230, R231, R234: FLUSH, EN_SET, EN_CLR and DMAEN, whole: FLUSH records no event and changes
no field; the others make one field write each, whatever the field held; all end OK. -/
def Obligations.FlushAndFieldCommands : Prop :=
  ∀ (s : State) (tb rb : BitVec 1),
    let done (k : Latch) : State := { s with
        status := { s.status with result := .ok, done := true, fsm := .idle }
        latch := k
        join := ⟨false, false, false, false⟩
        mpc := none }
    let wrote (k : Latch) (c : Ctl) (fs : List FieldSet) : State :=
      { done k with ctl := c, journal := s.journal ++ [.event (.fw fs)] }
    (Ready s .flush → execN .flush 2 s = .next (done { s.latch with op := 0x06 }))
    ∧ (Ready s .enSet → execN .enSet 3 s =
      .next (wrote { s.latch with op := 0x40 } { s.ctl with en := 1 } [.en 1]))
    ∧ (Ready s .enClr → execN .enClr 3 s =
      .next (wrote { s.latch with op := 0x41 } { s.ctl with en := 0 } [.en 0]))
    ∧ (Ready s (.dmaen tb rb) → execN (.dmaen tb rb) 3 s =
      .next (wrote { s.latch with op := 0x44, t := tb, r := rb }
        { s.ctl with txdmaen := tb, rxdmaen := rb } [.txdmaen tb, .rxdmaen rb]))

/-! ## The host register window -/

/-- R21 to R23, R27 to R32, R61, R75, R77, R104: what the host reads, and its memory accesses. A read at
every offset of the window changes nothing but the journal (R269) and, where it reads `DONE` = 1, what
the host is sure to see of memory. A `wait` reads `STATUS` until `DONE` is 1, with turns of the other
agents between its reads. A read of memory sees any of the racing values: every choice of the stores of
`SEQ` and the DMA channels since the host last read `DONE` = 1, with all its own; and memory itself
where there are none. The form of the choice is the model's, notes/assumptions/21.md and 27.md. -/
def Obligations.HostReadsWaitsAndMemoryAccesses : Prop :=
  ∀ (s : State) (ts : List Turn),
    let synced : HostView := if s.status.done = true then ⟨s.mem, []⟩ else s.view
    (∀ off : BitVec 12, s.env.agenda = .hostRead off 4 :: ts → off.toNat % 4 = 0 →
      ∃ v : Word, step s = .next { s with
          journal := s.journal ++ [.hostRead off v], env := { s.env with agenda := ts }
          view := if off = 0x004 then synced else s.view }
      ∧ (off = 0x000 → v = 0) ∧ (off = 0x004 → v = statusWord s.status s.join)
      ∧ (off = 0x008 → v = s.regs.cfg.setWidth 32) ∧ (off = 0x00C → v = s.regs.freq)
      ∧ (off = 0x010 → v = s.regs.bind.setWidth 32) ∧ (off = 0x014 → v = s.regs.txaddr)
      ∧ (off = 0x018 → v = s.regs.rxaddr) ∧ (off = 0x01C → v = s.regs.txlen)
      ∧ (off = 0x020 → v = s.regs.rxlen) ∧ (off = 0x024 → v = s.regs.kclk)
      ∧ (off = 0x028 → v = BitVec.ofNat 32 s.curWidth) ∧ (off = 0x02C → v = s.regs.rdcfg)
      ∧ (off = 0x030 → v = s.regs.rdfreq) ∧ (off = 0x034 → v = s.regs.xcount)
      ∧ (off = 0x038 → v = s.regs.ssample) ∧ (0x03C ≤ off.toNat → v = 0))
    ∧ (s.env.agenda = .hostWait :: ts → s.status.done = true → step s = .next { s with
        journal := s.journal ++ [.hostRead 0x004 (statusWord s.status s.join)]
        env := { s.env with agenda := ts }, view := ⟨s.mem, []⟩ })
    ∧ (∀ us bs, s.env.agenda = .hostWait :: ts → s.status.done = false → s.env.between = us :: bs →
      (∀ u ∈ us, u ≠ .hostWait ∧ (∀ off size v, u ≠ .hostWrite off size v)
        ∧ ∀ off size, u ≠ .hostRead off size) → step s = .next { s with
        journal := s.journal ++ [.hostRead 0x004 (statusWord s.status s.join)]
        env := { s.env with
          agenda := us ++ .hostWait :: ts, between := bs, draws := s.env.draws + 1 } })
    ∧ (∀ a size ws, s.env.agenda = .memRead a size :: ts → ws.Sublist s.view.later →
      ws.filter (·.own) = s.view.later.filter (·.own) → ∃ pick, ∀ ps,
        step { s with env := { s.env with picks := pick :: ps } } = .next { s with
          journal := s.journal ++
            [.memRead a size (BitVec.ofNat 32 ((s.view.seen.storeAll ws).load a size))]
          env := { s.env with agenda := ts, picks := ps, draws := s.env.draws + 1 } })
    ∧ (∀ a size, s.env.agenda = .memRead a size :: ts → ∃ ws, ws.Sublist s.view.later
      ∧ ws.filter (·.own) = s.view.later.filter (·.own) ∧ step s = .next { s with
          journal := s.journal ++
            [.memRead a size (BitVec.ofNat 32 ((s.view.seen.storeAll ws).load a size))]
          env := { s.env with
            agenda := ts, picks := s.env.picks.tail, draws := s.env.draws + 1 } })
    ∧ (∀ a size v, s.env.agenda = .memWrite a size v :: ts → step s = .next { s with
        mem := s.mem.store a size v.toNat, view := s.view.push ⟨a, size, v, true⟩
        journal := s.journal ++ [.memWrite a size v], env := { s.env with agenda := ts } })

/-- R23, R24, R250, R251, R32, R43: the fields of the `STATUS` word and the numbers of its codes; the
bits of `SSAMPLE`; and that a flag the generation lacks reads 0 while every other flag passes
unchanged. -/
def Obligations.StatusAndSsampleFields : Prop :=
  ∀ (st : Status) (j : Join) (x : Sample) (g : Gen),
    (let w := statusWord st j
     w.extractLsb' 0 3 = st.fsm.code ∧ w.getLsbD 3 = st.done ∧ w.getLsbD 4 = st.lost
     ∧ w.extractLsb' 5 3 = 0 ∧ w.extractLsb' 8 4 = st.result.code
     ∧ w.extractLsb' 12 4 = st.fcause.code ∧ w.getLsbD 16 = j.txdone ∧ w.getLsbD 17 = j.rxdone
     ∧ w.getLsbD 18 = j.txsub ∧ w.getLsbD 19 = j.rxsub ∧ w.extractLsb' 20 12 = 0)
    ∧ (let w := ssampleWord x
     w.getLsbD 0 = x.ovr ∧ w.getLsbD 1 = x.fre ∧ w.getLsbD 2 = x.modf ∧ w.getLsbD 3 = x.crce
     ∧ w.getLsbD 4 = x.txrdy ∧ w.getLsbD 5 = x.rxrdy ∧ w.getLsbD 6 = x.bsy ∧ w.getLsbD 7 = x.tc
     ∧ w.extractLsb' 8 24 = 0)
    ∧ [Fsm.uninit, .idle, .busy, .waitDma, .fatal].map Fsm.code = [0, 1, 2, 3, 4]
    ∧ [ResultCode.ok, .overrun, .framing, .modeFault, .crc, .illegal, .align, .nochan, .aborted,
        .fatal].map ResultCode.code = [0, 1, 2, 3, 4, 5, 6, 7, 8, 9]
    ∧ [FCause.none, .freqZero, .freqAboveClock, .lenMismatch].map FCause.code = [0, 1, 2, 3]
    ∧ (g ≠ .gen3 → sampleOf g x = { x with tc := false })
    ∧ (g = .gen3 → sampleOf g x = { x with bsy := false })

/-- R21, R23, R26 to R30: host writes: to the operand registers, taken in UNINIT and IDLE (`BIND` in
UNINIT only), ignored elsewhere, and not stored in bits that read 0; to `STATUS`, which clear `LOST` by
bit 4 and do nothing else; to a read-only register or a reserved offset, which are ignored. -/
def Obligations.HostWritesTakeEffectByState : Prop :=
  ∀ (s : State) (off : BitVec 12) (v : Word) (ts : List Turn),
    s.env.agenda = .hostWrite off 4 v :: ts → off.toNat % 4 = 0 →
    let seen : State := { s with
      journal := s.journal ++ [.hostWrite off v], env := { s.env with agenda := ts } }
    let opened := s.status.fsm = .uninit ∨ s.status.fsm = .idle
    (opened → off = 0x008 → step s = .next { seen with regs := { s.regs with cfg := v.setWidth 3 } })
    ∧ (opened → off = 0x00C → step s = .next { seen with regs := { s.regs with freq := v } })
    ∧ (opened → off = 0x014 → step s = .next { seen with regs := { s.regs with txaddr := v } })
    ∧ (opened → off = 0x018 → step s = .next { seen with regs := { s.regs with rxaddr := v } })
    ∧ (opened → off = 0x01C → step s = .next { seen with regs := { s.regs with txlen := v } })
    ∧ (opened → off = 0x020 → step s = .next { seen with regs := { s.regs with rxlen := v } })
    ∧ (s.status.fsm = .uninit → off = 0x010 →
        step s = .next { seen with regs := { s.regs with bind := v.setWidth 6 } })
    ∧ (¬opened → (off = 0x008 ∨ off = 0x00C ∨ off = 0x014 ∨ off = 0x018 ∨ off = 0x01C
        ∨ off = 0x020) → step s = .next seen)
    ∧ (s.status.fsm ≠ .uninit → off = 0x010 → step s = .next seen)
    ∧ (off = 0x004 → v.getLsbD 4 = true →
        step s = .next { seen with status := { s.status with lost := false } })
    ∧ (off = 0x004 → v.getLsbD 4 = false → step s = .next seen)
    ∧ (0x024 ≤ off.toNat → step s = .next seen)

/-- R61: a host access to the window of another width or alignment is refused. -/
def Obligations.NarrowOrUnalignedHostAccessIsRefused : Prop :=
  ∀ (s : State) (off : BitVec 12) (size : Nat) (v : Word) (ts : List Turn),
    (s.env.agenda = .hostWrite off size v :: ts ∨ s.env.agenda = .hostRead off size :: ts) →
    (size ≠ 4 ∨ off.toNat % 4 ≠ 0) → step s = .refused .hostAccess

/-! ## Memory -/

/-- R62: `MemWrite`, then `MemRead` of the same bytes, returns the value; every other byte reads as
before. -/
def Obligations.StoreThenLoad : Prop :=
  ∀ (m : Memory) (a : Word) (sz v : Nat), m.wf → sz ≤ 4 →
    (m.store a sz v).load a sz = v % 2 ^ (8 * sz)
    ∧ ∀ b, (∀ k < sz, b ≠ (a.toNat + k) % 2 ^ 32) → (m.store a sz v).read b = m.read b

/-- R62, R63: the bytes of a stored element, the value loaded from bytes, and a 16-bit element `0xAABB`
written at `a`, which reads as `0xBB` at `a` and `0xAA` at `a + 1`. -/
def Obligations.LittleEndianElement : Prop :=
  ∀ (m : Memory) (a : Word) (sz v : Nat), m.wf → sz ≤ 4 →
    (∀ k < sz, (m.store a sz v).read ((a.toNat + k) % 2 ^ 32) = BitVec.ofNat 8 (v / 256 ^ k))
    ∧ m.load a sz = ((List.range sz).map fun k =>
        (m.read ((a.toNat + k) % 2 ^ 32)).toNat * 256 ^ k).sum
    ∧ (m.store a 2 0xAABB).load a 1 = 0xBB ∧ (m.store a 2 0xAABB).load (a + 1) 1 = 0xAA

/-- R64, R68, R183 to R186, R204: the only bytes of memory a step can change: the element of a running
blocking command's sink, the element a receive channel moves, or what a bus master writes. -/
def Obligations.MemoryChangesOnlyInStoredBytes : Prop :=
  ∀ (s t : State) (b : Nat), s.mem.wf → step s = .next t → t.mem.read b ≠ s.mem.read b →
    (∃ i k, isBlocking i = true ∧ At s i (.blk .l4) ∧ s.nextTurn = .seq ∧ k < s.latch.sz
      ∧ b = (s.regs.rxaddr.toNat + s.vars.i.toNat * s.latch.sz + k) % 2 ^ 32)
    ∨ (∃ ch e f a k, s.nextTurn = .dmaMove ch e ∧ s.flight ch = some f ∧ f.desc.dir = .p2m
      ∧ f.desc.mem = .addr a ∧ k < f.desc.esize
      ∧ b = (a.toNat + e * f.desc.esize + k) % 2 ^ 32)
    ∨ (∃ a sz v k, s.nextTurn = .memWrite a sz v ∧ k < sz ∧ b = (a.toNat + k) % 2 ^ 32)

/-! ## The whole machine -/

/-- R48, R280, R39: what reset leaves, for any parameters, and that it is a legal state. -/
def Obligations.ResetStateIsLegal : Prop :=
  ∀ p : Params, ParamsOk p →
    Inv (State.resetWith p) ∧ (State.resetWith p).readReg .status = 0
    ∧ (∀ off, (State.resetWith p).readOffset off = 0) ∧ (State.resetWith p).mpc = none
    ∧ (State.resetWith p).trace = [] ∧ (State.resetWith p).clkOn = false
    ∧ (State.resetWith p).pins = ⟨false, false, false⟩ ∧ State.reset = State.resetWith Config.built

/-- The legal states are closed under steps: R23, R25, R32 to R35, R47, the canonical form of memory,
that the host's view of memory loses no store (R75), and that no channel is in flight outside a DMA command (Safety.lean's `Inv`). -/
def Obligations.EveryStepKeepsTheStateLegal : Prop :=
  ∀ s t : State, Inv s → step s = .next t → Inv t

/-- No command stops. In every legal state each command, running or attempted, answers a next state, and
the machine as a whole stops on nothing but a host access that R61 refuses. -/
def Obligations.NothingButBadHostAccessesStops : Prop :=
  ∀ s : State, Inv s →
    (∀ i : Instr, ∃ t, exec i s = .next t)
    ∧ ((∃ t, step s = .next t)
      ∨ (step s = .refused .hostAccess ∧ ∃ off size, (size ≠ 4 ∨ off.toNat % 4 ≠ 0)
        ∧ ((∃ v, s.nextTurn = .hostWrite off size v) ∨ s.nextTurn = .hostRead off size)))

/-- R24: the transitions of `STATE`, with the event that the table names for each. -/
def Obligations.StateTransitions : Prop :=
  ∀ s t : State, Inv s → step s = .next t → s.nextTurn ≠ .reset →
    t.status.fsm = s.status.fsm
    ∨ (s.status.fsm = .uninit ∧ t.status.fsm = .busy ∧ t.latch.op = 0x01)
    ∨ (s.status.fsm = .idle ∧ t.status.fsm = .busy ∧ t.latch.op ≠ 0x01 ∧ t.latch.op ≠ 0x30)
    ∨ (s.status.fsm = .busy ∧ t.status.fsm = .idle ∧ s.latch.op ≠ 0x02)
    ∨ (s.status.fsm = .busy ∧ t.status.fsm = .uninit ∧ s.latch.op = 0x02)
    ∨ (s.status.fsm = .busy ∧ t.status.fsm = .waitDma ∧ ∃ i, s.latch.instr = some i ∧ isDma i = true)
    ∨ (s.status.fsm = .waitDma ∧ t.status.fsm = .busy
        ∧ ((s.join.txsub = true → s.join.txdone = true) ∧ (s.join.rxsub = true → s.join.rxdone = true)
          ∨ s.nextTurn = .hostWrite 0x000 4 0x00000030 ∧ t.latch.op = 0x30))
    ∨ (s.status.fsm = .busy ∧ t.status.fsm = .fatal ∧ t.status.result = .fatal
        ∧ t.status.fcause ≠ .none)

/-- R255, D31: in FATAL, until reset, no step changes the state, the cause, the result, `DONE`, a host
register, the latched command, the loop variables, the control image, the clock or the pins, and no
event is recorded. -/
def Obligations.FatalIsLeftOnlyByReset : Prop :=
  ∀ s t : State, s.status.fsm = .fatal → step s = .next t → s.nextTurn ≠ .reset →
    t.status.fsm = .fatal ∧ t.status.fcause = s.status.fcause ∧ t.status.result = s.status.result
    ∧ t.status.done = s.status.done ∧ t.regs = s.regs ∧ t.curWidth = s.curWidth
    ∧ t.latch = s.latch ∧ t.vars = s.vars ∧ t.ctl = s.ctl ∧ t.clkOn = s.clkOn
    ∧ t.pins = s.pins ∧ t.mpc = s.mpc ∧ t.trace = s.trace

/-- R280, R281: reset, in any state: every piece of SPISEQ state to its reset value, the collaborators
idle, memory kept. -/
def Obligations.ResetTurn : Prop :=
  ∀ (s : State) (ts : List Turn), s.env.agenda = .reset :: ts →
    ∃ t, step s = .next t ∧ t.mem = s.mem ∧ t.view = ⟨s.mem, []⟩ ∧ t.params = s.params ∧ t.env.agenda = ts
    ∧ t.status = ⟨.uninit, false, false, .ok, .none⟩ ∧ (∀ off, t.readOffset off = 0)
    ∧ t.mpc = none ∧ t.curWidth = 0 ∧ t.join = ⟨false, false, false, false⟩
    ∧ t.vars = ⟨0, 0, 0, 0, noFlags, .none, t.vars.dv⟩ ∧ t.latch = ⟨0, 0, 0, 0, 0⟩
    ∧ t.trace = [] ∧ t.clkOn = false ∧ t.pins = ⟨false, false, false⟩
    ∧ t.txch = none ∧ t.rxch = none

/-- R47 (d), R35, R80: outside UNINIT no step but reset changes `BIND`; while a command runs, only
ABORT's acceptance changes what is latched. -/
def Obligations.RunningCommandIsProtected : Prop :=
  ∀ s t : State, Inv s → step s = .next t → s.nextTurn ≠ .reset →
    (s.status.fsm ≠ .uninit → t.regs.bind = s.regs.bind)
    ∧ (s.status.fsm = .busy → t.latch = s.latch)
    ∧ (s.status.fsm = .busy ∨ s.status.fsm = .waitDma →
        t.regs.cfg = s.regs.cfg ∧ t.regs.freq = s.regs.freq ∧ t.regs.txaddr = s.regs.txaddr
        ∧ t.regs.rxaddr = s.regs.rxaddr ∧ t.regs.txlen = s.regs.txlen
        ∧ t.regs.rxlen = s.regs.rxlen)

/-- R181, R31, R37: `XCOUNT` is written only by a running blocking command, `KCLK` only by INIT and
DEINIT, `CUR_WIDTH` only by INIT, DEINIT and the commands that carry a width. -/
def Obligations.OutputRegistersHaveOneWriter : Prop :=
  ∀ (s t : State) (i : Instr), s.running = some i → exec i s = .next t →
    (t.regs.xcount ≠ s.regs.xcount → isBlocking i = true)
    ∧ (t.regs.kclk ≠ s.regs.kclk → i = .init ∨ i = .deinit)
    ∧ (t.curWidth ≠ s.curWidth → i = .init ∨ i = .deinit ∨ (∃ n, i.width = some n ∧ t.curWidth = s.latch.n))
    ∧ (t.regs.rdcfg ≠ s.regs.rdcfg ∨ t.regs.rdfreq ≠ s.regs.rdfreq → i = .getConfig)

/-- R11, R36, R64: a step of a command records at most one event, and an attempt records none: no
access is repeated, merged or split. -/
def Obligations.OneEventPerStep : Prop :=
  ∀ (s t : State) (i : Instr), exec i s = .next t →
    (t.journal = s.journal ∨ ∃ e, t.journal = s.journal ++ [.event e])
    ∧ (s.running ≠ some i → t.journal = s.journal)

/-- R45, R301: the control image changes only in a step that records the access: a field write of the
assigned fields, the clock's enable and reset, or its disable. -/
def Obligations.ControlImageChangesOnlyByRecordedAccesses : Prop :=
  ∀ (s t : State) (i : Instr), exec i s = .next t → t.ctl ≠ s.ctl →
    (∃ fs, t.journal = s.journal ++ [.event (.fw fs)] ∧ t.ctl = assignFields s.ctl fs)
    ∨ (i = .init ∧ t.journal = s.journal ++ [.event .cer] ∧ t.ctl = s.params.periphReset)
    ∨ (i = .deinit ∧ t.journal = s.journal ++ [.event .cd])
end

