-- ==== Sys2Proof/Laws/State.lean ====
section
/-! SUPPORT. One lemma per field per update of State, each true by unfolding, so that no proof unfolds
a record update. -/

namespace Sys2Proof.Machine

variable (s : State)

@[simp] theorem record_params (e : Entry) : (s.record e).params = s.params := rfl
@[simp] theorem record_regs (e : Entry) : (s.record e).regs = s.regs := rfl
@[simp] theorem record_status (e : Entry) : (s.record e).status = s.status := rfl
@[simp] theorem record_curWidth (e : Entry) : (s.record e).curWidth = s.curWidth := rfl
@[simp] theorem record_mpc (e : Entry) : (s.record e).mpc = s.mpc := rfl
@[simp] theorem record_vars (e : Entry) : (s.record e).vars = s.vars := rfl
@[simp] theorem record_join (e : Entry) : (s.record e).join = s.join := rfl
@[simp] theorem record_latch (e : Entry) : (s.record e).latch = s.latch := rfl
@[simp] theorem record_ctl (e : Entry) : (s.record e).ctl = s.ctl := rfl
@[simp] theorem record_clkOn (e : Entry) : (s.record e).clkOn = s.clkOn := rfl
@[simp] theorem record_pins (e : Entry) : (s.record e).pins = s.pins := rfl
@[simp] theorem record_txch (e : Entry) : (s.record e).txch = s.txch := rfl
@[simp] theorem record_rxch (e : Entry) : (s.record e).rxch = s.rxch := rfl
@[simp] theorem record_mem (e : Entry) : (s.record e).mem = s.mem := rfl
@[simp] theorem record_view (e : Entry) : (s.record e).view = s.view := rfl
@[simp] theorem record_journal (e : Entry) : (s.record e).journal = s.journal ++ [e] := rfl
@[simp] theorem record_env (e : Entry) : (s.record e).env = s.env := rfl

@[simp] theorem emit_params (e : Event) : (s.emit e).params = s.params := rfl
@[simp] theorem emit_regs (e : Event) : (s.emit e).regs = s.regs := rfl
@[simp] theorem emit_status (e : Event) : (s.emit e).status = s.status := rfl
@[simp] theorem emit_curWidth (e : Event) : (s.emit e).curWidth = s.curWidth := rfl
@[simp] theorem emit_mpc (e : Event) : (s.emit e).mpc = s.mpc := rfl
@[simp] theorem emit_vars (e : Event) : (s.emit e).vars = s.vars := rfl
@[simp] theorem emit_join (e : Event) : (s.emit e).join = s.join := rfl
@[simp] theorem emit_latch (e : Event) : (s.emit e).latch = s.latch := rfl
@[simp] theorem emit_ctl (e : Event) : (s.emit e).ctl = s.ctl := rfl
@[simp] theorem emit_clkOn (e : Event) : (s.emit e).clkOn = s.clkOn := rfl
@[simp] theorem emit_pins (e : Event) : (s.emit e).pins = s.pins := rfl
@[simp] theorem emit_txch (e : Event) : (s.emit e).txch = s.txch := rfl
@[simp] theorem emit_rxch (e : Event) : (s.emit e).rxch = s.rxch := rfl
@[simp] theorem emit_mem (e : Event) : (s.emit e).mem = s.mem := rfl
@[simp] theorem emit_view (e : Event) : (s.emit e).view = s.view := rfl
@[simp] theorem emit_journal (e : Event) : (s.emit e).journal = s.journal ++ [.event e] := rfl
@[simp] theorem emit_env (e : Event) : (s.emit e).env = s.env := rfl

@[simp] theorem goto_params (l : Label) : (s.goto l).params = s.params := rfl
@[simp] theorem goto_regs (l : Label) : (s.goto l).regs = s.regs := rfl
@[simp] theorem goto_status (l : Label) : (s.goto l).status = s.status := rfl
@[simp] theorem goto_curWidth (l : Label) : (s.goto l).curWidth = s.curWidth := rfl
@[simp] theorem goto_mpc (l : Label) : (s.goto l).mpc = some l := rfl
@[simp] theorem goto_vars (l : Label) : (s.goto l).vars = s.vars := rfl
@[simp] theorem goto_join (l : Label) : (s.goto l).join = s.join := rfl
@[simp] theorem goto_latch (l : Label) : (s.goto l).latch = s.latch := rfl
@[simp] theorem goto_ctl (l : Label) : (s.goto l).ctl = s.ctl := rfl
@[simp] theorem goto_clkOn (l : Label) : (s.goto l).clkOn = s.clkOn := rfl
@[simp] theorem goto_pins (l : Label) : (s.goto l).pins = s.pins := rfl
@[simp] theorem goto_txch (l : Label) : (s.goto l).txch = s.txch := rfl
@[simp] theorem goto_rxch (l : Label) : (s.goto l).rxch = s.rxch := rfl
@[simp] theorem goto_mem (l : Label) : (s.goto l).mem = s.mem := rfl
@[simp] theorem goto_view (l : Label) : (s.goto l).view = s.view := rfl
@[simp] theorem goto_journal (l : Label) : (s.goto l).journal = s.journal := rfl
@[simp] theorem goto_env (l : Label) : (s.goto l).env = s.env := rfl

@[simp] theorem fieldWrite_params (fs : List FieldSet) : (s.fieldWrite fs).params = s.params := rfl
@[simp] theorem fieldWrite_regs (fs : List FieldSet) : (s.fieldWrite fs).regs = s.regs := rfl
@[simp] theorem fieldWrite_status (fs : List FieldSet) : (s.fieldWrite fs).status = s.status := rfl
@[simp] theorem fieldWrite_curWidth (fs : List FieldSet) :
    (s.fieldWrite fs).curWidth = s.curWidth := rfl
@[simp] theorem fieldWrite_mpc (fs : List FieldSet) : (s.fieldWrite fs).mpc = s.mpc := rfl
@[simp] theorem fieldWrite_vars (fs : List FieldSet) : (s.fieldWrite fs).vars = s.vars := rfl
@[simp] theorem fieldWrite_join (fs : List FieldSet) : (s.fieldWrite fs).join = s.join := rfl
@[simp] theorem fieldWrite_latch (fs : List FieldSet) : (s.fieldWrite fs).latch = s.latch := rfl
@[simp] theorem fieldWrite_ctl (fs : List FieldSet) :
    (s.fieldWrite fs).ctl = assignFields s.ctl fs := rfl
@[simp] theorem fieldWrite_clkOn (fs : List FieldSet) : (s.fieldWrite fs).clkOn = s.clkOn := rfl
@[simp] theorem fieldWrite_pins (fs : List FieldSet) : (s.fieldWrite fs).pins = s.pins := rfl
@[simp] theorem fieldWrite_txch (fs : List FieldSet) : (s.fieldWrite fs).txch = s.txch := rfl
@[simp] theorem fieldWrite_rxch (fs : List FieldSet) : (s.fieldWrite fs).rxch = s.rxch := rfl
@[simp] theorem fieldWrite_mem (fs : List FieldSet) : (s.fieldWrite fs).mem = s.mem := rfl
@[simp] theorem fieldWrite_view (fs : List FieldSet) : (s.fieldWrite fs).view = s.view := rfl
@[simp] theorem fieldWrite_journal (fs : List FieldSet) :
    (s.fieldWrite fs).journal = s.journal ++ [.event (.fw fs)] := rfl
@[simp] theorem fieldWrite_env (fs : List FieldSet) : (s.fieldWrite fs).env = s.env := rfl

@[simp] theorem regWriteIfcr_params (v : Word) : (s.regWriteIfcr v).params = s.params := rfl
@[simp] theorem regWriteIfcr_regs (v : Word) : (s.regWriteIfcr v).regs = s.regs := rfl
@[simp] theorem regWriteIfcr_status (v : Word) : (s.regWriteIfcr v).status = s.status := rfl
@[simp] theorem regWriteIfcr_curWidth (v : Word) : (s.regWriteIfcr v).curWidth = s.curWidth := rfl
@[simp] theorem regWriteIfcr_mpc (v : Word) : (s.regWriteIfcr v).mpc = s.mpc := rfl
@[simp] theorem regWriteIfcr_vars (v : Word) : (s.regWriteIfcr v).vars = s.vars := rfl
@[simp] theorem regWriteIfcr_join (v : Word) : (s.regWriteIfcr v).join = s.join := rfl
@[simp] theorem regWriteIfcr_latch (v : Word) : (s.regWriteIfcr v).latch = s.latch := rfl
@[simp] theorem regWriteIfcr_ctl (v : Word) : (s.regWriteIfcr v).ctl = s.ctl := rfl
@[simp] theorem regWriteIfcr_clkOn (v : Word) : (s.regWriteIfcr v).clkOn = s.clkOn := rfl
@[simp] theorem regWriteIfcr_pins (v : Word) : (s.regWriteIfcr v).pins = s.pins := rfl
@[simp] theorem regWriteIfcr_txch (v : Word) : (s.regWriteIfcr v).txch = s.txch := rfl
@[simp] theorem regWriteIfcr_rxch (v : Word) : (s.regWriteIfcr v).rxch = s.rxch := rfl
@[simp] theorem regWriteIfcr_mem (v : Word) : (s.regWriteIfcr v).mem = s.mem := rfl
@[simp] theorem regWriteIfcr_view (v : Word) : (s.regWriteIfcr v).view = s.view := rfl
@[simp] theorem regWriteIfcr_journal (v : Word) :
    (s.regWriteIfcr v).journal = s.journal ++ [.event (.rwIfcr v)] := rfl
@[simp] theorem regWriteIfcr_env (v : Word) : (s.regWriteIfcr v).env = s.env := rfl

@[simp] theorem fieldReadConfig_params : (s.fieldReadConfig).params = s.params := rfl
@[simp] theorem fieldReadConfig_regs : (s.fieldReadConfig).regs = s.regs := rfl
@[simp] theorem fieldReadConfig_status : (s.fieldReadConfig).status = s.status := rfl
@[simp] theorem fieldReadConfig_curWidth : (s.fieldReadConfig).curWidth = s.curWidth := rfl
@[simp] theorem fieldReadConfig_mpc : (s.fieldReadConfig).mpc = s.mpc := rfl
@[simp] theorem fieldReadConfig_vars : (s.fieldReadConfig).vars = s.vars := rfl
@[simp] theorem fieldReadConfig_join : (s.fieldReadConfig).join = s.join := rfl
@[simp] theorem fieldReadConfig_latch : (s.fieldReadConfig).latch = s.latch := rfl
@[simp] theorem fieldReadConfig_ctl : (s.fieldReadConfig).ctl = s.ctl := rfl
@[simp] theorem fieldReadConfig_clkOn : (s.fieldReadConfig).clkOn = s.clkOn := rfl
@[simp] theorem fieldReadConfig_pins : (s.fieldReadConfig).pins = s.pins := rfl
@[simp] theorem fieldReadConfig_txch : (s.fieldReadConfig).txch = s.txch := rfl
@[simp] theorem fieldReadConfig_rxch : (s.fieldReadConfig).rxch = s.rxch := rfl
@[simp] theorem fieldReadConfig_mem : (s.fieldReadConfig).mem = s.mem := rfl
@[simp] theorem fieldReadConfig_view : (s.fieldReadConfig).view = s.view := rfl
@[simp] theorem fieldReadConfig_journal : (s.fieldReadConfig).journal = s.journal ++
      [.event (.fr [.cpol s.ctl.cpol, .cpha s.ctl.cpha, .lsbf s.ctl.lsbf, .br s.ctl.br])] := rfl
@[simp] theorem fieldReadConfig_env : (s.fieldReadConfig).env = s.env := rfl

@[simp] theorem statusSample_params : (s.statusSample).params = s.params := rfl
@[simp] theorem statusSample_regs :
    (s.statusSample).regs = { s.regs with ssample := ssampleWord s.coming } := rfl
@[simp] theorem statusSample_status : (s.statusSample).status = s.status := rfl
@[simp] theorem statusSample_curWidth : (s.statusSample).curWidth = s.curWidth := rfl
@[simp] theorem statusSample_mpc : (s.statusSample).mpc = s.mpc := rfl
@[simp] theorem statusSample_vars : (s.statusSample).vars = { s.vars with s := s.coming } := rfl
@[simp] theorem statusSample_join : (s.statusSample).join = s.join := rfl
@[simp] theorem statusSample_latch : (s.statusSample).latch = s.latch := rfl
@[simp] theorem statusSample_ctl : (s.statusSample).ctl = s.ctl := rfl
@[simp] theorem statusSample_clkOn : (s.statusSample).clkOn = s.clkOn := rfl
@[simp] theorem statusSample_pins : (s.statusSample).pins = s.pins := rfl
@[simp] theorem statusSample_txch : (s.statusSample).txch = s.txch := rfl
@[simp] theorem statusSample_rxch : (s.statusSample).rxch = s.rxch := rfl
@[simp] theorem statusSample_mem : (s.statusSample).mem = s.mem := rfl
@[simp] theorem statusSample_view : (s.statusSample).view = s.view := rfl
@[simp] theorem statusSample_journal :
    (s.statusSample).journal = s.journal ++ [.event (.ss s.coming)] := rfl
@[simp] theorem statusSample_env : (s.statusSample).env = s.env.afterSample := rfl

@[simp] theorem classify_params : (s.classify).params = s.params := rfl
@[simp] theorem classify_regs : (s.classify).regs = s.regs := rfl
@[simp] theorem classify_status : (s.classify).status = s.status := rfl
@[simp] theorem classify_curWidth : (s.classify).curWidth = s.curWidth := rfl
@[simp] theorem classify_mpc : (s.classify).mpc = s.mpc := rfl
@[simp] theorem classify_vars : (s.classify).vars = { s.vars with e := errclass s.vars.s } := rfl
@[simp] theorem classify_join : (s.classify).join = s.join := rfl
@[simp] theorem classify_latch : (s.classify).latch = s.latch := rfl
@[simp] theorem classify_ctl : (s.classify).ctl = s.ctl := rfl
@[simp] theorem classify_clkOn : (s.classify).clkOn = s.clkOn := rfl
@[simp] theorem classify_pins : (s.classify).pins = s.pins := rfl
@[simp] theorem classify_txch : (s.classify).txch = s.txch := rfl
@[simp] theorem classify_rxch : (s.classify).rxch = s.rxch := rfl
@[simp] theorem classify_mem : (s.classify).mem = s.mem := rfl
@[simp] theorem classify_view : (s.classify).view = s.view := rfl
@[simp] theorem classify_journal : (s.classify).journal = s.journal := rfl
@[simp] theorem classify_env : (s.classify).env = s.env := rfl

@[simp] theorem dataWrite_params (sz : Nat) (v : Word) : (s.dataWrite sz v).params = s.params := rfl
@[simp] theorem dataWrite_regs (sz : Nat) (v : Word) : (s.dataWrite sz v).regs = s.regs := rfl
@[simp] theorem dataWrite_status (sz : Nat) (v : Word) : (s.dataWrite sz v).status = s.status := rfl
@[simp] theorem dataWrite_curWidth (sz : Nat) (v : Word) :
    (s.dataWrite sz v).curWidth = s.curWidth := rfl
@[simp] theorem dataWrite_mpc (sz : Nat) (v : Word) : (s.dataWrite sz v).mpc = s.mpc := rfl
@[simp] theorem dataWrite_vars (sz : Nat) (v : Word) : (s.dataWrite sz v).vars = s.vars := rfl
@[simp] theorem dataWrite_join (sz : Nat) (v : Word) : (s.dataWrite sz v).join = s.join := rfl
@[simp] theorem dataWrite_latch (sz : Nat) (v : Word) : (s.dataWrite sz v).latch = s.latch := rfl
@[simp] theorem dataWrite_ctl (sz : Nat) (v : Word) : (s.dataWrite sz v).ctl = s.ctl := rfl
@[simp] theorem dataWrite_clkOn (sz : Nat) (v : Word) : (s.dataWrite sz v).clkOn = s.clkOn := rfl
@[simp] theorem dataWrite_pins (sz : Nat) (v : Word) : (s.dataWrite sz v).pins = s.pins := rfl
@[simp] theorem dataWrite_txch (sz : Nat) (v : Word) : (s.dataWrite sz v).txch = s.txch := rfl
@[simp] theorem dataWrite_rxch (sz : Nat) (v : Word) : (s.dataWrite sz v).rxch = s.rxch := rfl
@[simp] theorem dataWrite_mem (sz : Nat) (v : Word) : (s.dataWrite sz v).mem = s.mem := rfl
@[simp] theorem dataWrite_view (sz : Nat) (v : Word) : (s.dataWrite sz v).view = s.view := rfl
@[simp] theorem dataWrite_journal (sz : Nat) (v : Word) :
    (s.dataWrite sz v).journal = s.journal ++ [.event (.dw sz v)] := rfl
@[simp] theorem dataWrite_env (sz : Nat) (v : Word) : (s.dataWrite sz v).env = s.env := rfl

@[simp] theorem dataRead_params (sz : Nat) : (s.dataRead sz).params = s.params := rfl
@[simp] theorem dataRead_regs (sz : Nat) : (s.dataRead sz).regs = s.regs := rfl
@[simp] theorem dataRead_status (sz : Nat) : (s.dataRead sz).status = s.status := rfl
@[simp] theorem dataRead_curWidth (sz : Nat) : (s.dataRead sz).curWidth = s.curWidth := rfl
@[simp] theorem dataRead_mpc (sz : Nat) : (s.dataRead sz).mpc = s.mpc := rfl
@[simp] theorem dataRead_vars (sz : Nat) : (s.dataRead sz).vars = s.vars := rfl
@[simp] theorem dataRead_join (sz : Nat) : (s.dataRead sz).join = s.join := rfl
@[simp] theorem dataRead_latch (sz : Nat) : (s.dataRead sz).latch = s.latch := rfl
@[simp] theorem dataRead_ctl (sz : Nat) : (s.dataRead sz).ctl = s.ctl := rfl
@[simp] theorem dataRead_clkOn (sz : Nat) : (s.dataRead sz).clkOn = s.clkOn := rfl
@[simp] theorem dataRead_pins (sz : Nat) : (s.dataRead sz).pins = s.pins := rfl
@[simp] theorem dataRead_txch (sz : Nat) : (s.dataRead sz).txch = s.txch := rfl
@[simp] theorem dataRead_rxch (sz : Nat) : (s.dataRead sz).rxch = s.rxch := rfl
@[simp] theorem dataRead_mem (sz : Nat) : (s.dataRead sz).mem = s.mem := rfl
@[simp] theorem dataRead_view (sz : Nat) : (s.dataRead sz).view = s.view := rfl
@[simp] theorem dataRead_journal (sz : Nat) :
    (s.dataRead sz).journal = s.journal ++ [.event (.dr sz (s.comingData sz))] := rfl
@[simp] theorem dataRead_env (sz : Nat) : (s.dataRead sz).env = s.env.afterData := rfl

@[simp] theorem dataReadRx_params (sz : Nat) : (s.dataReadRx sz).params = s.params := rfl
@[simp] theorem dataReadRx_regs (sz : Nat) : (s.dataReadRx sz).regs = s.regs := rfl
@[simp] theorem dataReadRx_status (sz : Nat) : (s.dataReadRx sz).status = s.status := rfl
@[simp] theorem dataReadRx_curWidth (sz : Nat) : (s.dataReadRx sz).curWidth = s.curWidth := rfl
@[simp] theorem dataReadRx_mpc (sz : Nat) : (s.dataReadRx sz).mpc = s.mpc := rfl
@[simp] theorem dataReadRx_vars (sz : Nat) :
    (s.dataReadRx sz).vars = { s.vars with rx := s.comingData sz } := rfl
@[simp] theorem dataReadRx_join (sz : Nat) : (s.dataReadRx sz).join = s.join := rfl
@[simp] theorem dataReadRx_latch (sz : Nat) : (s.dataReadRx sz).latch = s.latch := rfl
@[simp] theorem dataReadRx_ctl (sz : Nat) : (s.dataReadRx sz).ctl = s.ctl := rfl
@[simp] theorem dataReadRx_clkOn (sz : Nat) : (s.dataReadRx sz).clkOn = s.clkOn := rfl
@[simp] theorem dataReadRx_pins (sz : Nat) : (s.dataReadRx sz).pins = s.pins := rfl
@[simp] theorem dataReadRx_txch (sz : Nat) : (s.dataReadRx sz).txch = s.txch := rfl
@[simp] theorem dataReadRx_rxch (sz : Nat) : (s.dataReadRx sz).rxch = s.rxch := rfl
@[simp] theorem dataReadRx_mem (sz : Nat) : (s.dataReadRx sz).mem = s.mem := rfl
@[simp] theorem dataReadRx_view (sz : Nat) : (s.dataReadRx sz).view = s.view := rfl
@[simp] theorem dataReadRx_journal (sz : Nat) :
    (s.dataReadRx sz).journal = s.journal ++ [.event (.dr sz (s.comingData sz))] := rfl
@[simp] theorem dataReadRx_env (sz : Nat) : (s.dataReadRx sz).env = s.env.afterData := rfl

@[simp] theorem memReadTx_params (a : Word) (sz : Nat) : (s.memReadTx a sz).params = s.params := rfl
@[simp] theorem memReadTx_regs (a : Word) (sz : Nat) : (s.memReadTx a sz).regs = s.regs := rfl
@[simp] theorem memReadTx_status (a : Word) (sz : Nat) : (s.memReadTx a sz).status = s.status := rfl
@[simp] theorem memReadTx_curWidth (a : Word) (sz : Nat) :
    (s.memReadTx a sz).curWidth = s.curWidth := rfl
@[simp] theorem memReadTx_mpc (a : Word) (sz : Nat) : (s.memReadTx a sz).mpc = s.mpc := rfl
@[simp] theorem memReadTx_vars (a : Word) (sz : Nat) :
    (s.memReadTx a sz).vars = { s.vars with tx := s.loaded a sz } := rfl
@[simp] theorem memReadTx_join (a : Word) (sz : Nat) : (s.memReadTx a sz).join = s.join := rfl
@[simp] theorem memReadTx_latch (a : Word) (sz : Nat) : (s.memReadTx a sz).latch = s.latch := rfl
@[simp] theorem memReadTx_ctl (a : Word) (sz : Nat) : (s.memReadTx a sz).ctl = s.ctl := rfl
@[simp] theorem memReadTx_clkOn (a : Word) (sz : Nat) : (s.memReadTx a sz).clkOn = s.clkOn := rfl
@[simp] theorem memReadTx_pins (a : Word) (sz : Nat) : (s.memReadTx a sz).pins = s.pins := rfl
@[simp] theorem memReadTx_txch (a : Word) (sz : Nat) : (s.memReadTx a sz).txch = s.txch := rfl
@[simp] theorem memReadTx_rxch (a : Word) (sz : Nat) : (s.memReadTx a sz).rxch = s.rxch := rfl
@[simp] theorem memReadTx_mem (a : Word) (sz : Nat) : (s.memReadTx a sz).mem = s.mem := rfl
@[simp] theorem memReadTx_view (a : Word) (sz : Nat) : (s.memReadTx a sz).view = s.view := rfl
@[simp] theorem memReadTx_journal (a : Word) (sz : Nat) :
    (s.memReadTx a sz).journal = s.journal ++ [.event (.mr a sz (s.loaded a sz))] := rfl
@[simp] theorem memReadTx_env (a : Word) (sz : Nat) : (s.memReadTx a sz).env = s.env := rfl

@[simp] theorem store_params (w : Stored) : (s.store w).params = s.params := rfl
@[simp] theorem store_regs (w : Stored) : (s.store w).regs = s.regs := rfl
@[simp] theorem store_status (w : Stored) : (s.store w).status = s.status := rfl
@[simp] theorem store_curWidth (w : Stored) : (s.store w).curWidth = s.curWidth := rfl
@[simp] theorem store_mpc (w : Stored) : (s.store w).mpc = s.mpc := rfl
@[simp] theorem store_vars (w : Stored) : (s.store w).vars = s.vars := rfl
@[simp] theorem store_join (w : Stored) : (s.store w).join = s.join := rfl
@[simp] theorem store_latch (w : Stored) : (s.store w).latch = s.latch := rfl
@[simp] theorem store_ctl (w : Stored) : (s.store w).ctl = s.ctl := rfl
@[simp] theorem store_clkOn (w : Stored) : (s.store w).clkOn = s.clkOn := rfl
@[simp] theorem store_pins (w : Stored) : (s.store w).pins = s.pins := rfl
@[simp] theorem store_txch (w : Stored) : (s.store w).txch = s.txch := rfl
@[simp] theorem store_rxch (w : Stored) : (s.store w).rxch = s.rxch := rfl
@[simp] theorem store_mem (w : Stored) :
    (s.store w).mem = s.mem.store w.addr w.size w.value.toNat := rfl
@[simp] theorem store_view (w : Stored) : (s.store w).view = s.view.push w := rfl
@[simp] theorem store_journal (w : Stored) : (s.store w).journal = s.journal := rfl
@[simp] theorem store_env (w : Stored) : (s.store w).env = s.env := rfl

@[simp] theorem memWrite_params (a : Word) (sz : Nat) (v : Word) :
    (s.memWrite a sz v).params = s.params := rfl
@[simp] theorem memWrite_regs (a : Word) (sz : Nat) (v : Word) :
    (s.memWrite a sz v).regs = s.regs := rfl
@[simp] theorem memWrite_status (a : Word) (sz : Nat) (v : Word) :
    (s.memWrite a sz v).status = s.status := rfl
@[simp] theorem memWrite_curWidth (a : Word) (sz : Nat) (v : Word) :
    (s.memWrite a sz v).curWidth = s.curWidth := rfl
@[simp] theorem memWrite_mpc (a : Word) (sz : Nat) (v : Word) :
    (s.memWrite a sz v).mpc = s.mpc := rfl
@[simp] theorem memWrite_vars (a : Word) (sz : Nat) (v : Word) :
    (s.memWrite a sz v).vars = s.vars := rfl
@[simp] theorem memWrite_join (a : Word) (sz : Nat) (v : Word) :
    (s.memWrite a sz v).join = s.join := rfl
@[simp] theorem memWrite_latch (a : Word) (sz : Nat) (v : Word) :
    (s.memWrite a sz v).latch = s.latch := rfl
@[simp] theorem memWrite_ctl (a : Word) (sz : Nat) (v : Word) :
    (s.memWrite a sz v).ctl = s.ctl := rfl
@[simp] theorem memWrite_clkOn (a : Word) (sz : Nat) (v : Word) :
    (s.memWrite a sz v).clkOn = s.clkOn := rfl
@[simp] theorem memWrite_pins (a : Word) (sz : Nat) (v : Word) :
    (s.memWrite a sz v).pins = s.pins := rfl
@[simp] theorem memWrite_txch (a : Word) (sz : Nat) (v : Word) :
    (s.memWrite a sz v).txch = s.txch := rfl
@[simp] theorem memWrite_rxch (a : Word) (sz : Nat) (v : Word) :
    (s.memWrite a sz v).rxch = s.rxch := rfl
@[simp] theorem memWrite_mem (a : Word) (sz : Nat) (v : Word) :
    (s.memWrite a sz v).mem = s.mem.store a sz v.toNat := rfl
@[simp] theorem memWrite_view (a : Word) (sz : Nat) (v : Word) :
    (s.memWrite a sz v).view = s.view.push ⟨a, sz, v, false⟩ := rfl
@[simp] theorem memWrite_journal (a : Word) (sz : Nat) (v : Word) :
    (s.memWrite a sz v).journal = s.journal ++ [.event (.mw a sz v)] := rfl
@[simp] theorem memWrite_env (a : Word) (sz : Nat) (v : Word) :
    (s.memWrite a sz v).env = s.env := rfl

@[simp] theorem dmaSubmit_tx_params (d : Desc) : (s.dmaSubmit .tx d).params = s.params := rfl
@[simp] theorem dmaSubmit_tx_regs (d : Desc) : (s.dmaSubmit .tx d).regs = s.regs := rfl
@[simp] theorem dmaSubmit_tx_status (d : Desc) : (s.dmaSubmit .tx d).status = s.status := rfl
@[simp] theorem dmaSubmit_tx_curWidth (d : Desc) : (s.dmaSubmit .tx d).curWidth = s.curWidth := rfl
@[simp] theorem dmaSubmit_tx_mpc (d : Desc) : (s.dmaSubmit .tx d).mpc = s.mpc := rfl
@[simp] theorem dmaSubmit_tx_vars (d : Desc) : (s.dmaSubmit .tx d).vars = s.vars := rfl
@[simp] theorem dmaSubmit_tx_join (d : Desc) :
    (s.dmaSubmit .tx d).join = { s.join with txsub := true, txdone := false } := rfl
@[simp] theorem dmaSubmit_tx_latch (d : Desc) : (s.dmaSubmit .tx d).latch = s.latch := rfl
@[simp] theorem dmaSubmit_tx_ctl (d : Desc) : (s.dmaSubmit .tx d).ctl = s.ctl := rfl
@[simp] theorem dmaSubmit_tx_clkOn (d : Desc) : (s.dmaSubmit .tx d).clkOn = s.clkOn := rfl
@[simp] theorem dmaSubmit_tx_pins (d : Desc) : (s.dmaSubmit .tx d).pins = s.pins := rfl
@[simp] theorem dmaSubmit_tx_txch (d : Desc) : (s.dmaSubmit .tx d).txch = some ⟨d, []⟩ := rfl
@[simp] theorem dmaSubmit_tx_rxch (d : Desc) : (s.dmaSubmit .tx d).rxch = s.rxch := rfl
@[simp] theorem dmaSubmit_tx_mem (d : Desc) : (s.dmaSubmit .tx d).mem = s.mem := rfl
@[simp] theorem dmaSubmit_tx_view (d : Desc) : (s.dmaSubmit .tx d).view = s.view := rfl
@[simp] theorem dmaSubmit_tx_journal (d : Desc) :
    (s.dmaSubmit .tx d).journal = s.journal ++ [.event (.ds .tx d)] := rfl
@[simp] theorem dmaSubmit_tx_env (d : Desc) : (s.dmaSubmit .tx d).env = s.env := rfl

@[simp] theorem dmaSubmit_rx_params (d : Desc) : (s.dmaSubmit .rx d).params = s.params := rfl
@[simp] theorem dmaSubmit_rx_regs (d : Desc) : (s.dmaSubmit .rx d).regs = s.regs := rfl
@[simp] theorem dmaSubmit_rx_status (d : Desc) : (s.dmaSubmit .rx d).status = s.status := rfl
@[simp] theorem dmaSubmit_rx_curWidth (d : Desc) : (s.dmaSubmit .rx d).curWidth = s.curWidth := rfl
@[simp] theorem dmaSubmit_rx_mpc (d : Desc) : (s.dmaSubmit .rx d).mpc = s.mpc := rfl
@[simp] theorem dmaSubmit_rx_vars (d : Desc) : (s.dmaSubmit .rx d).vars = s.vars := rfl
@[simp] theorem dmaSubmit_rx_join (d : Desc) :
    (s.dmaSubmit .rx d).join = { s.join with rxsub := true, rxdone := false } := rfl
@[simp] theorem dmaSubmit_rx_latch (d : Desc) : (s.dmaSubmit .rx d).latch = s.latch := rfl
@[simp] theorem dmaSubmit_rx_ctl (d : Desc) : (s.dmaSubmit .rx d).ctl = s.ctl := rfl
@[simp] theorem dmaSubmit_rx_clkOn (d : Desc) : (s.dmaSubmit .rx d).clkOn = s.clkOn := rfl
@[simp] theorem dmaSubmit_rx_pins (d : Desc) : (s.dmaSubmit .rx d).pins = s.pins := rfl
@[simp] theorem dmaSubmit_rx_txch (d : Desc) : (s.dmaSubmit .rx d).txch = s.txch := rfl
@[simp] theorem dmaSubmit_rx_rxch (d : Desc) : (s.dmaSubmit .rx d).rxch = some ⟨d, []⟩ := rfl
@[simp] theorem dmaSubmit_rx_mem (d : Desc) : (s.dmaSubmit .rx d).mem = s.mem := rfl
@[simp] theorem dmaSubmit_rx_view (d : Desc) : (s.dmaSubmit .rx d).view = s.view := rfl
@[simp] theorem dmaSubmit_rx_journal (d : Desc) :
    (s.dmaSubmit .rx d).journal = s.journal ++ [.event (.ds .rx d)] := rfl
@[simp] theorem dmaSubmit_rx_env (d : Desc) : (s.dmaSubmit .rx d).env = s.env := rfl

@[simp] theorem dmaHalt_tx_params : (s.dmaHalt .tx).params = s.params := rfl
@[simp] theorem dmaHalt_tx_regs : (s.dmaHalt .tx).regs = s.regs := rfl
@[simp] theorem dmaHalt_tx_status : (s.dmaHalt .tx).status = s.status := rfl
@[simp] theorem dmaHalt_tx_curWidth : (s.dmaHalt .tx).curWidth = s.curWidth := rfl
@[simp] theorem dmaHalt_tx_mpc : (s.dmaHalt .tx).mpc = s.mpc := rfl
@[simp] theorem dmaHalt_tx_vars : (s.dmaHalt .tx).vars = s.vars := rfl
@[simp] theorem dmaHalt_tx_join : (s.dmaHalt .tx).join = s.join := rfl
@[simp] theorem dmaHalt_tx_latch : (s.dmaHalt .tx).latch = s.latch := rfl
@[simp] theorem dmaHalt_tx_ctl : (s.dmaHalt .tx).ctl = s.ctl := rfl
@[simp] theorem dmaHalt_tx_clkOn : (s.dmaHalt .tx).clkOn = s.clkOn := rfl
@[simp] theorem dmaHalt_tx_pins : (s.dmaHalt .tx).pins = s.pins := rfl
@[simp] theorem dmaHalt_tx_txch : (s.dmaHalt .tx).txch = none := rfl
@[simp] theorem dmaHalt_tx_rxch : (s.dmaHalt .tx).rxch = s.rxch := rfl
@[simp] theorem dmaHalt_tx_mem : (s.dmaHalt .tx).mem = s.mem := rfl
@[simp] theorem dmaHalt_tx_view : (s.dmaHalt .tx).view = s.view := rfl
@[simp] theorem dmaHalt_tx_journal :
    (s.dmaHalt .tx).journal = s.journal ++ [.event (.dh .tx)] := rfl
@[simp] theorem dmaHalt_tx_env : (s.dmaHalt .tx).env = s.env := rfl

@[simp] theorem dmaHalt_rx_params : (s.dmaHalt .rx).params = s.params := rfl
@[simp] theorem dmaHalt_rx_regs : (s.dmaHalt .rx).regs = s.regs := rfl
@[simp] theorem dmaHalt_rx_status : (s.dmaHalt .rx).status = s.status := rfl
@[simp] theorem dmaHalt_rx_curWidth : (s.dmaHalt .rx).curWidth = s.curWidth := rfl
@[simp] theorem dmaHalt_rx_mpc : (s.dmaHalt .rx).mpc = s.mpc := rfl
@[simp] theorem dmaHalt_rx_vars : (s.dmaHalt .rx).vars = s.vars := rfl
@[simp] theorem dmaHalt_rx_join : (s.dmaHalt .rx).join = s.join := rfl
@[simp] theorem dmaHalt_rx_latch : (s.dmaHalt .rx).latch = s.latch := rfl
@[simp] theorem dmaHalt_rx_ctl : (s.dmaHalt .rx).ctl = s.ctl := rfl
@[simp] theorem dmaHalt_rx_clkOn : (s.dmaHalt .rx).clkOn = s.clkOn := rfl
@[simp] theorem dmaHalt_rx_pins : (s.dmaHalt .rx).pins = s.pins := rfl
@[simp] theorem dmaHalt_rx_txch : (s.dmaHalt .rx).txch = s.txch := rfl
@[simp] theorem dmaHalt_rx_rxch : (s.dmaHalt .rx).rxch = none := rfl
@[simp] theorem dmaHalt_rx_mem : (s.dmaHalt .rx).mem = s.mem := rfl
@[simp] theorem dmaHalt_rx_view : (s.dmaHalt .rx).view = s.view := rfl
@[simp] theorem dmaHalt_rx_journal :
    (s.dmaHalt .rx).journal = s.journal ++ [.event (.dh .rx)] := rfl
@[simp] theorem dmaHalt_rx_env : (s.dmaHalt .rx).env = s.env := rfl

@[simp] theorem clkEnableReset_params : (s.clkEnableReset).params = s.params := rfl
@[simp] theorem clkEnableReset_regs : (s.clkEnableReset).regs = s.regs := rfl
@[simp] theorem clkEnableReset_status : (s.clkEnableReset).status = s.status := rfl
@[simp] theorem clkEnableReset_curWidth : (s.clkEnableReset).curWidth = s.curWidth := rfl
@[simp] theorem clkEnableReset_mpc : (s.clkEnableReset).mpc = s.mpc := rfl
@[simp] theorem clkEnableReset_vars : (s.clkEnableReset).vars = s.vars := rfl
@[simp] theorem clkEnableReset_join : (s.clkEnableReset).join = s.join := rfl
@[simp] theorem clkEnableReset_latch : (s.clkEnableReset).latch = s.latch := rfl
@[simp] theorem clkEnableReset_ctl : (s.clkEnableReset).ctl = s.params.periphReset := rfl
@[simp] theorem clkEnableReset_clkOn : (s.clkEnableReset).clkOn = true := rfl
@[simp] theorem clkEnableReset_pins : (s.clkEnableReset).pins = s.pins := rfl
@[simp] theorem clkEnableReset_txch : (s.clkEnableReset).txch = s.txch := rfl
@[simp] theorem clkEnableReset_rxch : (s.clkEnableReset).rxch = s.rxch := rfl
@[simp] theorem clkEnableReset_mem : (s.clkEnableReset).mem = s.mem := rfl
@[simp] theorem clkEnableReset_view : (s.clkEnableReset).view = s.view := rfl
@[simp] theorem clkEnableReset_journal :
    (s.clkEnableReset).journal = s.journal ++ [.event .cer] := rfl
@[simp] theorem clkEnableReset_env : (s.clkEnableReset).env = s.env := rfl

@[simp] theorem clkFreq_params : (s.clkFreq).params = s.params := rfl
@[simp] theorem clkFreq_regs : (s.clkFreq).regs = { s.regs with kclk := s.env.nextClock } := rfl
@[simp] theorem clkFreq_status : (s.clkFreq).status = s.status := rfl
@[simp] theorem clkFreq_curWidth : (s.clkFreq).curWidth = s.curWidth := rfl
@[simp] theorem clkFreq_mpc : (s.clkFreq).mpc = s.mpc := rfl
@[simp] theorem clkFreq_vars : (s.clkFreq).vars = s.vars := rfl
@[simp] theorem clkFreq_join : (s.clkFreq).join = s.join := rfl
@[simp] theorem clkFreq_latch : (s.clkFreq).latch = s.latch := rfl
@[simp] theorem clkFreq_ctl : (s.clkFreq).ctl = s.ctl := rfl
@[simp] theorem clkFreq_clkOn : (s.clkFreq).clkOn = s.clkOn := rfl
@[simp] theorem clkFreq_pins : (s.clkFreq).pins = s.pins := rfl
@[simp] theorem clkFreq_txch : (s.clkFreq).txch = s.txch := rfl
@[simp] theorem clkFreq_rxch : (s.clkFreq).rxch = s.rxch := rfl
@[simp] theorem clkFreq_mem : (s.clkFreq).mem = s.mem := rfl
@[simp] theorem clkFreq_view : (s.clkFreq).view = s.view := rfl
@[simp] theorem clkFreq_journal :
    (s.clkFreq).journal = s.journal ++ [.event (.cf s.env.nextClock)] := rfl
@[simp] theorem clkFreq_env : (s.clkFreq).env = s.env.afterClock := rfl

@[simp] theorem clkDisable_params : (s.clkDisable).params = s.params := rfl
@[simp] theorem clkDisable_regs : (s.clkDisable).regs = s.regs := rfl
@[simp] theorem clkDisable_status : (s.clkDisable).status = s.status := rfl
@[simp] theorem clkDisable_curWidth : (s.clkDisable).curWidth = s.curWidth := rfl
@[simp] theorem clkDisable_mpc : (s.clkDisable).mpc = s.mpc := rfl
@[simp] theorem clkDisable_vars : (s.clkDisable).vars = s.vars := rfl
@[simp] theorem clkDisable_join : (s.clkDisable).join = s.join := rfl
@[simp] theorem clkDisable_latch : (s.clkDisable).latch = s.latch := rfl
@[simp] theorem clkDisable_ctl : (s.clkDisable).ctl = Config.freeCtl s.env.draws := rfl
@[simp] theorem clkDisable_clkOn : (s.clkDisable).clkOn = false := rfl
@[simp] theorem clkDisable_pins : (s.clkDisable).pins = s.pins := rfl
@[simp] theorem clkDisable_txch : (s.clkDisable).txch = s.txch := rfl
@[simp] theorem clkDisable_rxch : (s.clkDisable).rxch = s.rxch := rfl
@[simp] theorem clkDisable_mem : (s.clkDisable).mem = s.mem := rfl
@[simp] theorem clkDisable_view : (s.clkDisable).view = s.view := rfl
@[simp] theorem clkDisable_journal : (s.clkDisable).journal = s.journal ++ [.event .cd] := rfl
@[simp] theorem clkDisable_env : (s.clkDisable).env = s.env.afterFree := rfl

@[simp] theorem pinDisconnect_params (p : Pin) : (s.pinDisconnect p).params = s.params := rfl
@[simp] theorem pinDisconnect_regs (p : Pin) : (s.pinDisconnect p).regs = s.regs := rfl
@[simp] theorem pinDisconnect_status (p : Pin) : (s.pinDisconnect p).status = s.status := rfl
@[simp] theorem pinDisconnect_curWidth (p : Pin) : (s.pinDisconnect p).curWidth = s.curWidth := rfl
@[simp] theorem pinDisconnect_mpc (p : Pin) : (s.pinDisconnect p).mpc = s.mpc := rfl
@[simp] theorem pinDisconnect_vars (p : Pin) : (s.pinDisconnect p).vars = s.vars := rfl
@[simp] theorem pinDisconnect_join (p : Pin) : (s.pinDisconnect p).join = s.join := rfl
@[simp] theorem pinDisconnect_latch (p : Pin) : (s.pinDisconnect p).latch = s.latch := rfl
@[simp] theorem pinDisconnect_ctl (p : Pin) : (s.pinDisconnect p).ctl = s.ctl := rfl
@[simp] theorem pinDisconnect_clkOn (p : Pin) : (s.pinDisconnect p).clkOn = s.clkOn := rfl
@[simp] theorem pinDisconnect_pins (p : Pin) : (s.pinDisconnect p).pins = s.pins := rfl
@[simp] theorem pinDisconnect_txch (p : Pin) : (s.pinDisconnect p).txch = s.txch := rfl
@[simp] theorem pinDisconnect_rxch (p : Pin) : (s.pinDisconnect p).rxch = s.rxch := rfl
@[simp] theorem pinDisconnect_mem (p : Pin) : (s.pinDisconnect p).mem = s.mem := rfl
@[simp] theorem pinDisconnect_view (p : Pin) : (s.pinDisconnect p).view = s.view := rfl
@[simp] theorem pinDisconnect_journal (p : Pin) :
    (s.pinDisconnect p).journal = s.journal ++ [.event (.pd p)] := rfl
@[simp] theorem pinDisconnect_env (p : Pin) : (s.pinDisconnect p).env = s.env := rfl

@[simp] theorem setCurWidth_params (n : Nat) : (s.setCurWidth n).params = s.params := rfl
@[simp] theorem setCurWidth_regs (n : Nat) : (s.setCurWidth n).regs = s.regs := rfl
@[simp] theorem setCurWidth_status (n : Nat) : (s.setCurWidth n).status = s.status := rfl
@[simp] theorem setCurWidth_curWidth (n : Nat) : (s.setCurWidth n).curWidth = n := rfl
@[simp] theorem setCurWidth_mpc (n : Nat) : (s.setCurWidth n).mpc = s.mpc := rfl
@[simp] theorem setCurWidth_vars (n : Nat) : (s.setCurWidth n).vars = s.vars := rfl
@[simp] theorem setCurWidth_join (n : Nat) : (s.setCurWidth n).join = s.join := rfl
@[simp] theorem setCurWidth_latch (n : Nat) : (s.setCurWidth n).latch = s.latch := rfl
@[simp] theorem setCurWidth_ctl (n : Nat) : (s.setCurWidth n).ctl = s.ctl := rfl
@[simp] theorem setCurWidth_clkOn (n : Nat) : (s.setCurWidth n).clkOn = s.clkOn := rfl
@[simp] theorem setCurWidth_pins (n : Nat) : (s.setCurWidth n).pins = s.pins := rfl
@[simp] theorem setCurWidth_txch (n : Nat) : (s.setCurWidth n).txch = s.txch := rfl
@[simp] theorem setCurWidth_rxch (n : Nat) : (s.setCurWidth n).rxch = s.rxch := rfl
@[simp] theorem setCurWidth_mem (n : Nat) : (s.setCurWidth n).mem = s.mem := rfl
@[simp] theorem setCurWidth_view (n : Nat) : (s.setCurWidth n).view = s.view := rfl
@[simp] theorem setCurWidth_journal (n : Nat) : (s.setCurWidth n).journal = s.journal := rfl
@[simp] theorem setCurWidth_env (n : Nat) : (s.setCurWidth n).env = s.env := rfl

@[simp] theorem reject_params (c : ResultCode) : (s.reject c).params = s.params := rfl
@[simp] theorem reject_regs (c : ResultCode) : (s.reject c).regs = s.regs := rfl
@[simp] theorem reject_status (c : ResultCode) :
    (s.reject c).status = { s.status with result := c, done := true } := rfl
@[simp] theorem reject_curWidth (c : ResultCode) : (s.reject c).curWidth = s.curWidth := rfl
@[simp] theorem reject_mpc (c : ResultCode) : (s.reject c).mpc = s.mpc := rfl
@[simp] theorem reject_vars (c : ResultCode) : (s.reject c).vars = s.vars := rfl
@[simp] theorem reject_join (c : ResultCode) : (s.reject c).join = s.join := rfl
@[simp] theorem reject_latch (c : ResultCode) : (s.reject c).latch = s.latch := rfl
@[simp] theorem reject_ctl (c : ResultCode) : (s.reject c).ctl = s.ctl := rfl
@[simp] theorem reject_clkOn (c : ResultCode) : (s.reject c).clkOn = s.clkOn := rfl
@[simp] theorem reject_pins (c : ResultCode) : (s.reject c).pins = s.pins := rfl
@[simp] theorem reject_txch (c : ResultCode) : (s.reject c).txch = s.txch := rfl
@[simp] theorem reject_rxch (c : ResultCode) : (s.reject c).rxch = s.rxch := rfl
@[simp] theorem reject_mem (c : ResultCode) : (s.reject c).mem = s.mem := rfl
@[simp] theorem reject_view (c : ResultCode) : (s.reject c).view = s.view := rfl
@[simp] theorem reject_journal (c : ResultCode) : (s.reject c).journal = s.journal := rfl
@[simp] theorem reject_env (c : ResultCode) : (s.reject c).env = s.env := rfl

@[simp] theorem complete_params (c : ResultCode) : (s.complete c).params = s.params := rfl
@[simp] theorem complete_regs (c : ResultCode) : (s.complete c).regs = s.regs := rfl
@[simp] theorem complete_status (c : ResultCode) : (s.complete c).status = { s.status with
      result := c
      done := true
      fsm := if s.latch.op = Instr.deinit.opcode then .uninit else .idle } := rfl
@[simp] theorem complete_curWidth (c : ResultCode) : (s.complete c).curWidth = s.curWidth := rfl
@[simp] theorem complete_mpc (c : ResultCode) : (s.complete c).mpc = none := rfl
@[simp] theorem complete_vars (c : ResultCode) : (s.complete c).vars = s.vars := rfl
@[simp] theorem complete_join (c : ResultCode) : (s.complete c).join = s.join := rfl
@[simp] theorem complete_latch (c : ResultCode) : (s.complete c).latch = s.latch := rfl
@[simp] theorem complete_ctl (c : ResultCode) : (s.complete c).ctl = s.ctl := rfl
@[simp] theorem complete_clkOn (c : ResultCode) : (s.complete c).clkOn = s.clkOn := rfl
@[simp] theorem complete_pins (c : ResultCode) : (s.complete c).pins = s.pins := rfl
@[simp] theorem complete_txch (c : ResultCode) : (s.complete c).txch = s.txch := rfl
@[simp] theorem complete_rxch (c : ResultCode) : (s.complete c).rxch = s.rxch := rfl
@[simp] theorem complete_mem (c : ResultCode) : (s.complete c).mem = s.mem := rfl
@[simp] theorem complete_view (c : ResultCode) : (s.complete c).view = s.view := rfl
@[simp] theorem complete_journal (c : ResultCode) : (s.complete c).journal = s.journal := rfl
@[simp] theorem complete_env (c : ResultCode) : (s.complete c).env = s.env := rfl

@[simp] theorem raiseFatal_params (c : FCause) : (s.raiseFatal c).params = s.params := rfl
@[simp] theorem raiseFatal_regs (c : FCause) : (s.raiseFatal c).regs = s.regs := rfl
@[simp] theorem raiseFatal_status (c : FCause) :
    (s.raiseFatal c).status = { s.status with fcause := c, result := .fatal, done := true, fsm := .fatal } := rfl
@[simp] theorem raiseFatal_curWidth (c : FCause) : (s.raiseFatal c).curWidth = s.curWidth := rfl
@[simp] theorem raiseFatal_mpc (c : FCause) : (s.raiseFatal c).mpc = none := rfl
@[simp] theorem raiseFatal_vars (c : FCause) : (s.raiseFatal c).vars = s.vars := rfl
@[simp] theorem raiseFatal_join (c : FCause) : (s.raiseFatal c).join = s.join := rfl
@[simp] theorem raiseFatal_latch (c : FCause) : (s.raiseFatal c).latch = s.latch := rfl
@[simp] theorem raiseFatal_ctl (c : FCause) : (s.raiseFatal c).ctl = s.ctl := rfl
@[simp] theorem raiseFatal_clkOn (c : FCause) : (s.raiseFatal c).clkOn = s.clkOn := rfl
@[simp] theorem raiseFatal_pins (c : FCause) : (s.raiseFatal c).pins = s.pins := rfl
@[simp] theorem raiseFatal_txch (c : FCause) : (s.raiseFatal c).txch = s.txch := rfl
@[simp] theorem raiseFatal_rxch (c : FCause) : (s.raiseFatal c).rxch = s.rxch := rfl
@[simp] theorem raiseFatal_mem (c : FCause) : (s.raiseFatal c).mem = s.mem := rfl
@[simp] theorem raiseFatal_view (c : FCause) : (s.raiseFatal c).view = s.view := rfl
@[simp] theorem raiseFatal_journal (c : FCause) : (s.raiseFatal c).journal = s.journal := rfl
@[simp] theorem raiseFatal_env (c : FCause) : (s.raiseFatal c).env = s.env := rfl

@[simp] theorem ignoreCmd_params : (s.ignoreCmd).params = s.params := rfl
@[simp] theorem ignoreCmd_regs : (s.ignoreCmd).regs = s.regs := rfl
@[simp] theorem ignoreCmd_status : (s.ignoreCmd).status = { s.status with lost := true } := rfl
@[simp] theorem ignoreCmd_curWidth : (s.ignoreCmd).curWidth = s.curWidth := rfl
@[simp] theorem ignoreCmd_mpc : (s.ignoreCmd).mpc = s.mpc := rfl
@[simp] theorem ignoreCmd_vars : (s.ignoreCmd).vars = s.vars := rfl
@[simp] theorem ignoreCmd_join : (s.ignoreCmd).join = s.join := rfl
@[simp] theorem ignoreCmd_latch : (s.ignoreCmd).latch = s.latch := rfl
@[simp] theorem ignoreCmd_ctl : (s.ignoreCmd).ctl = s.ctl := rfl
@[simp] theorem ignoreCmd_clkOn : (s.ignoreCmd).clkOn = s.clkOn := rfl
@[simp] theorem ignoreCmd_pins : (s.ignoreCmd).pins = s.pins := rfl
@[simp] theorem ignoreCmd_txch : (s.ignoreCmd).txch = s.txch := rfl
@[simp] theorem ignoreCmd_rxch : (s.ignoreCmd).rxch = s.rxch := rfl
@[simp] theorem ignoreCmd_mem : (s.ignoreCmd).mem = s.mem := rfl
@[simp] theorem ignoreCmd_view : (s.ignoreCmd).view = s.view := rfl
@[simp] theorem ignoreCmd_journal : (s.ignoreCmd).journal = s.journal := rfl
@[simp] theorem ignoreCmd_env : (s.ignoreCmd).env = s.env := rfl

@[simp] theorem accept_params (i : Instr) : (s.accept i).params = s.params := rfl
@[simp] theorem accept_regs (i : Instr) : (s.accept i).regs = s.regs := rfl
@[simp] theorem accept_status (i : Instr) :
    (s.accept i).status = { s.status with done := false, result := .ok, fsm := .busy } := rfl
@[simp] theorem accept_curWidth (i : Instr) : (s.accept i).curWidth = s.curWidth := rfl
@[simp] theorem accept_mpc (i : Instr) : (s.accept i).mpc = some (firstLabel i) := rfl
@[simp] theorem accept_vars (i : Instr) : (s.accept i).vars = s.vars := rfl
@[simp] theorem accept_join (i : Instr) : (s.accept i).join = s.join.accept i := rfl
@[simp] theorem accept_latch (i : Instr) : (s.accept i).latch = s.latch.accept i := rfl
@[simp] theorem accept_ctl (i : Instr) : (s.accept i).ctl = s.ctl := rfl
@[simp] theorem accept_clkOn (i : Instr) : (s.accept i).clkOn = s.clkOn := rfl
@[simp] theorem accept_pins (i : Instr) : (s.accept i).pins = s.pins := rfl
@[simp] theorem accept_txch (i : Instr) : (s.accept i).txch = s.txch := rfl
@[simp] theorem accept_rxch (i : Instr) : (s.accept i).rxch = s.rxch := rfl
@[simp] theorem accept_mem (i : Instr) : (s.accept i).mem = s.mem := rfl
@[simp] theorem accept_view (i : Instr) : (s.accept i).view = s.view := rfl
@[simp] theorem accept_journal (i : Instr) : (s.accept i).journal = s.journal := rfl
@[simp] theorem accept_env (i : Instr) : (s.accept i).env = s.env := rfl

@[simp] theorem busWrite_params (a : Word) (sz : Nat) (v : Word) :
    (s.busWrite a sz v).params = s.params := rfl
@[simp] theorem busWrite_regs (a : Word) (sz : Nat) (v : Word) :
    (s.busWrite a sz v).regs = s.regs := rfl
@[simp] theorem busWrite_status (a : Word) (sz : Nat) (v : Word) :
    (s.busWrite a sz v).status = s.status := rfl
@[simp] theorem busWrite_curWidth (a : Word) (sz : Nat) (v : Word) :
    (s.busWrite a sz v).curWidth = s.curWidth := rfl
@[simp] theorem busWrite_mpc (a : Word) (sz : Nat) (v : Word) :
    (s.busWrite a sz v).mpc = s.mpc := rfl
@[simp] theorem busWrite_vars (a : Word) (sz : Nat) (v : Word) :
    (s.busWrite a sz v).vars = s.vars := rfl
@[simp] theorem busWrite_join (a : Word) (sz : Nat) (v : Word) :
    (s.busWrite a sz v).join = s.join := rfl
@[simp] theorem busWrite_latch (a : Word) (sz : Nat) (v : Word) :
    (s.busWrite a sz v).latch = s.latch := rfl
@[simp] theorem busWrite_ctl (a : Word) (sz : Nat) (v : Word) :
    (s.busWrite a sz v).ctl = s.ctl := rfl
@[simp] theorem busWrite_clkOn (a : Word) (sz : Nat) (v : Word) :
    (s.busWrite a sz v).clkOn = s.clkOn := rfl
@[simp] theorem busWrite_pins (a : Word) (sz : Nat) (v : Word) :
    (s.busWrite a sz v).pins = s.pins := rfl
@[simp] theorem busWrite_txch (a : Word) (sz : Nat) (v : Word) :
    (s.busWrite a sz v).txch = s.txch := rfl
@[simp] theorem busWrite_rxch (a : Word) (sz : Nat) (v : Word) :
    (s.busWrite a sz v).rxch = s.rxch := rfl
@[simp] theorem busWrite_mem (a : Word) (sz : Nat) (v : Word) :
    (s.busWrite a sz v).mem = s.mem.store a sz v.toNat := rfl
@[simp] theorem busWrite_view (a : Word) (sz : Nat) (v : Word) :
    (s.busWrite a sz v).view = s.view.push ⟨a, sz, v, true⟩ := rfl
@[simp] theorem busWrite_journal (a : Word) (sz : Nat) (v : Word) :
    (s.busWrite a sz v).journal = s.journal ++ [.memWrite a sz v] := rfl
@[simp] theorem busWrite_env (a : Word) (sz : Nat) (v : Word) :
    (s.busWrite a sz v).env = s.env := rfl

@[simp] theorem busRead_params (a : Word) (sz : Nat) : (s.busRead a sz).params = s.params := rfl
@[simp] theorem busRead_regs (a : Word) (sz : Nat) : (s.busRead a sz).regs = s.regs := rfl
@[simp] theorem busRead_status (a : Word) (sz : Nat) : (s.busRead a sz).status = s.status := rfl
@[simp] theorem busRead_curWidth (a : Word) (sz : Nat) :
    (s.busRead a sz).curWidth = s.curWidth := rfl
@[simp] theorem busRead_mpc (a : Word) (sz : Nat) : (s.busRead a sz).mpc = s.mpc := rfl
@[simp] theorem busRead_vars (a : Word) (sz : Nat) : (s.busRead a sz).vars = s.vars := rfl
@[simp] theorem busRead_join (a : Word) (sz : Nat) : (s.busRead a sz).join = s.join := rfl
@[simp] theorem busRead_latch (a : Word) (sz : Nat) : (s.busRead a sz).latch = s.latch := rfl
@[simp] theorem busRead_ctl (a : Word) (sz : Nat) : (s.busRead a sz).ctl = s.ctl := rfl
@[simp] theorem busRead_clkOn (a : Word) (sz : Nat) : (s.busRead a sz).clkOn = s.clkOn := rfl
@[simp] theorem busRead_pins (a : Word) (sz : Nat) : (s.busRead a sz).pins = s.pins := rfl
@[simp] theorem busRead_txch (a : Word) (sz : Nat) : (s.busRead a sz).txch = s.txch := rfl
@[simp] theorem busRead_rxch (a : Word) (sz : Nat) : (s.busRead a sz).rxch = s.rxch := rfl
@[simp] theorem busRead_mem (a : Word) (sz : Nat) : (s.busRead a sz).mem = s.mem := rfl
@[simp] theorem busRead_view (a : Word) (sz : Nat) : (s.busRead a sz).view = s.view := rfl
@[simp] theorem busRead_journal (a : Word) (sz : Nat) :
    (s.busRead a sz).journal = s.journal ++ [.memRead a sz (s.hostLoaded a sz)] := rfl
@[simp] theorem busRead_env (a : Word) (sz : Nat) : (s.busRead a sz).env = s.env.afterPick := rfl

@[simp] theorem afterRead_params (off : BitVec 12) : (s.afterRead off).params = s.params := rfl
@[simp] theorem afterRead_regs (off : BitVec 12) : (s.afterRead off).regs = s.regs := rfl
@[simp] theorem afterRead_status (off : BitVec 12) : (s.afterRead off).status = s.status := rfl
@[simp] theorem afterRead_curWidth (off : BitVec 12) :
    (s.afterRead off).curWidth = s.curWidth := rfl
@[simp] theorem afterRead_mpc (off : BitVec 12) : (s.afterRead off).mpc = s.mpc := rfl
@[simp] theorem afterRead_vars (off : BitVec 12) : (s.afterRead off).vars = s.vars := rfl
@[simp] theorem afterRead_join (off : BitVec 12) : (s.afterRead off).join = s.join := rfl
@[simp] theorem afterRead_latch (off : BitVec 12) : (s.afterRead off).latch = s.latch := rfl
@[simp] theorem afterRead_ctl (off : BitVec 12) : (s.afterRead off).ctl = s.ctl := rfl
@[simp] theorem afterRead_clkOn (off : BitVec 12) : (s.afterRead off).clkOn = s.clkOn := rfl
@[simp] theorem afterRead_pins (off : BitVec 12) : (s.afterRead off).pins = s.pins := rfl
@[simp] theorem afterRead_txch (off : BitVec 12) : (s.afterRead off).txch = s.txch := rfl
@[simp] theorem afterRead_rxch (off : BitVec 12) : (s.afterRead off).rxch = s.rxch := rfl
@[simp] theorem afterRead_mem (off : BitVec 12) : (s.afterRead off).mem = s.mem := rfl
@[simp] theorem afterRead_view (off : BitVec 12) :
    (s.afterRead off).view = if off = 0x004 ∧ s.status.done = true then ⟨s.mem, []⟩ else s.view := rfl
@[simp] theorem afterRead_journal (off : BitVec 12) : (s.afterRead off).journal = s.journal := rfl
@[simp] theorem afterRead_env (off : BitVec 12) : (s.afterRead off).env = s.env := rfl

@[simp] theorem popTurn_params : (s.popTurn).params = s.params := rfl
@[simp] theorem popTurn_regs : (s.popTurn).regs = s.regs := rfl
@[simp] theorem popTurn_status : (s.popTurn).status = s.status := rfl
@[simp] theorem popTurn_curWidth : (s.popTurn).curWidth = s.curWidth := rfl
@[simp] theorem popTurn_mpc : (s.popTurn).mpc = s.mpc := rfl
@[simp] theorem popTurn_vars : (s.popTurn).vars = s.vars := rfl
@[simp] theorem popTurn_join : (s.popTurn).join = s.join := rfl
@[simp] theorem popTurn_latch : (s.popTurn).latch = s.latch := rfl
@[simp] theorem popTurn_ctl : (s.popTurn).ctl = s.ctl := rfl
@[simp] theorem popTurn_clkOn : (s.popTurn).clkOn = s.clkOn := rfl
@[simp] theorem popTurn_pins : (s.popTurn).pins = s.pins := rfl
@[simp] theorem popTurn_txch : (s.popTurn).txch = s.txch := rfl
@[simp] theorem popTurn_rxch : (s.popTurn).rxch = s.rxch := rfl
@[simp] theorem popTurn_mem : (s.popTurn).mem = s.mem := rfl
@[simp] theorem popTurn_view : (s.popTurn).view = s.view := rfl
@[simp] theorem popTurn_journal : (s.popTurn).journal = s.journal := rfl
@[simp] theorem popTurn_env : (s.popTurn).env = s.env.afterTurn := rfl

@[simp] theorem pushTurn_params (t : Turn) : (s.pushTurn t).params = s.params := rfl
@[simp] theorem pushTurn_regs (t : Turn) : (s.pushTurn t).regs = s.regs := rfl
@[simp] theorem pushTurn_status (t : Turn) : (s.pushTurn t).status = s.status := rfl
@[simp] theorem pushTurn_curWidth (t : Turn) : (s.pushTurn t).curWidth = s.curWidth := rfl
@[simp] theorem pushTurn_mpc (t : Turn) : (s.pushTurn t).mpc = s.mpc := rfl
@[simp] theorem pushTurn_vars (t : Turn) : (s.pushTurn t).vars = s.vars := rfl
@[simp] theorem pushTurn_join (t : Turn) : (s.pushTurn t).join = s.join := rfl
@[simp] theorem pushTurn_latch (t : Turn) : (s.pushTurn t).latch = s.latch := rfl
@[simp] theorem pushTurn_ctl (t : Turn) : (s.pushTurn t).ctl = s.ctl := rfl
@[simp] theorem pushTurn_clkOn (t : Turn) : (s.pushTurn t).clkOn = s.clkOn := rfl
@[simp] theorem pushTurn_pins (t : Turn) : (s.pushTurn t).pins = s.pins := rfl
@[simp] theorem pushTurn_txch (t : Turn) : (s.pushTurn t).txch = s.txch := rfl
@[simp] theorem pushTurn_rxch (t : Turn) : (s.pushTurn t).rxch = s.rxch := rfl
@[simp] theorem pushTurn_mem (t : Turn) : (s.pushTurn t).mem = s.mem := rfl
@[simp] theorem pushTurn_view (t : Turn) : (s.pushTurn t).view = s.view := rfl
@[simp] theorem pushTurn_journal (t : Turn) : (s.pushTurn t).journal = s.journal := rfl
@[simp] theorem pushTurn_env (t : Turn) :
    (s.pushTurn t).env = { s.env with agenda := t :: s.env.agenda } := rfl

end Sys2Proof.Machine
end

