-- ==== Sys2Proof/Laws/Exec.lean ====
section
/-! SUPPORT. What a command's meaning, an attempt and a step can do, said once. -/

namespace Sys2Proof.Machine

/-- The micro-program of each command, by label. -/
def progOf : Instr → Label → State → Option State
  | .init => initProg
  | .deinit => deinitProg
  | .setConfig => setConfigProg
  | .getConfig => getConfigProg
  | .setWidth _ => setWidthProg
  | .flush => flushProg
  | .blkWrite _ => blkWriteProg
  | .blkRead _ => blkReadProg
  | .blkXfer _ => blkXferProg
  | .blkXferIp _ => blkXferIpProg
  | .dmaWrite _ => dmaWriteProg
  | .dmaRead _ => dmaReadProg
  | .dmaXfer _ => dmaXferProg
  | .dmaXferIp _ => dmaXferIpProg
  | .abort => abortProg
  | .enSet => enSetProg
  | .enClr => enClrProg
  | .drain => drainProg
  | .poll => pollProg
  | .dmaen _ _ => dmaenProg
  | .finish => finishProg

theorem exec_eq_perform (i : Instr) (s : State) : exec i s = s.perform i (progOf i) := by
  cases i <;> rfl

theorem running_eq_some {s : State} {i : Instr} :
    s.running = some i ↔
      (s.status.fsm = .busy ∨ s.status.fsm = .waitDma) ∧ (∃ l, s.mpc = some l)
        ∧ s.latch.instr = some i := by
  unfold State.running
  split <;> simp_all

theorem at_iff {s : State} {i : Instr} {l : Label} :
    At s i l ↔ (s.status.fsm = .busy ∨ s.status.fsm = .waitDma) ∧ s.mpc = some l
      ∧ s.latch.instr = some i := by
  rw [At, running_eq_some]
  constructor
  · rintro ⟨⟨h1, -, h2⟩, h3⟩; exact ⟨h1, h3, h2⟩
  · rintro ⟨h1, h3, h2⟩; exact ⟨⟨h1, ⟨l, h3⟩, h2⟩, h3⟩

/-- A running command takes the step its label names. -/
theorem exec_at {s t : State} {i : Instr} {l : Label} (h : At s i l)
    (hp : progOf i l s = some t) : exec i s = .next t := by
  rw [exec_eq_perform, State.perform, if_pos h.1, h.2]
  simp only [hp]

/-- A command that is not running is attempted. -/
theorem exec_attempt {s : State} {i : Instr} (h : s.running ≠ some i) :
    exec i s = .next (s.attempt i) := by
  rw [exec_eq_perform, State.perform, if_neg h]

/-- Everything a command's meaning can do. -/
theorem exec_cases {s t : State} {i : Instr} (h : exec i s = .next t) :
    (∃ l, At s i l ∧ progOf i l s = some t) ∨ (s.running ≠ some i ∧ t = s.attempt i) := by
  rw [exec_eq_perform, State.perform] at h
  split at h
  · next hr =>
    split at h
    · next l hl =>
      split at h
      · next u hu => cases h; exact .inl ⟨l, ⟨hr, hl⟩, hu⟩
      · cases h
    · cases h
  · next hr => cases h; exact .inr ⟨hr, rfl⟩

/-- A meaning stops only on a label of another command. -/
theorem exec_fault_cases {s : State} {i : Instr} {r : Fault} (h : exec i s = .fault r) :
    ∃ l, At s i l ∧ progOf i l s = none := by
  rw [exec_eq_perform, State.perform] at h
  split at h
  · next hr =>
    split at h
    · next l hl =>
      split at h
      · cases h
      · next hn => exact ⟨l, ⟨hr, hl⟩, hn⟩
    · next hn => obtain ⟨-, ⟨l, hl⟩, -⟩ := running_eq_some.1 hr; simp [hn] at hl
  · cases h

/-- A meaning never refuses. -/
theorem exec_ne_refused (i : Instr) (s : State) (r : Refusal) : exec i s ≠ .refused r := by
  rw [exec_eq_perform, State.perform]
  split
  · split
    · split <;> simp
    · simp
  · simp

/-- Every label of a command's micro-program has its step. -/
theorem progOf_isSome {i : Instr} {l : Label} (h : ownsLabel i l = true) (s : State) :
    ∃ t, progOf i l s = some t := by
  cases i <;> cases l <;> simp [ownsLabel, isDma] at h <;> exact ⟨_, rfl⟩

/-- Everything an attempt can do. -/
theorem attempt_cases (s : State) (i : Instr) :
    (s.ignores i = true ∧ s.attempt i = s.ignoreCmd)
      ∨ (∃ c, s.ignores i = false ∧ checks i s = some c ∧ s.attempt i = s.reject c)
      ∨ (s.ignores i = false ∧ checks i s = none ∧ s.attempt i = s.accept i) := by
  unfold State.attempt
  cases h : s.ignores i
  · cases hc : checks i s <;> simp
  · simp

/-- A ready command is accepted. -/
theorem exec_ready {s : State} {i : Instr} (h : Ready s i) : exec i s = .next (s.accept i) := by
  obtain ⟨h1, h2, h3⟩ := h
  rw [exec_attempt h1, State.attempt, h2, h3]
  rfl

/-- The latches of an accepted command hold it. -/
@[simp] theorem instr_accept (k : Latch) (i : Instr) : (k.accept i).instr = some i := by
  cases i <;> rfl

/-- The opcode of an accepted command. -/
@[simp] theorem op_accept (k : Latch) (i : Instr) : (k.accept i).op = i.opcode := by
  cases i <;> rfl

theorem checks_none {i : Instr} {s : State} (h : checks i s = none) :
    s.status.fsm = acceptedIn i ∧ widthIllegal i s.params = false
      ∧ (isDma i = true → s.regs.async = true) ∧ channelMissing i s.regs = false
      ∧ bufferMisaligned i s.regs = false := by
  unfold checks at h
  split at h <;> try simp at h
  split at h <;> try simp at h
  split at h <;> try simp at h
  split at h <;> try simp at h
  simp_all

/-- A turn on the agenda is the next one, -/
theorem nextTurn_of_agenda {s : State} {t : Turn} {ts : List Turn} (h : s.env.agenda = t :: ts) :
    s.nextTurn = t := by simp [State.nextTurn, Env.nextTurn, h]

/-- and taking it leaves the agenda without it. -/
theorem popTurn_of_agenda {s : State} {t : Turn} {ts : List Turn} (h : s.env.agenda = t :: ts) :
    s.popTurn = { s with env := { s.env with agenda := ts } } := by
  simp [State.popTurn, Env.afterTurn, h]

/-- A step with a turn on the agenda. -/
theorem step_of_agenda {s : State} {t : Turn} {ts : List Turn} (h : s.env.agenda = t :: ts) :
    step s = { s with env := { s.env with agenda := ts } }.turn exec t := by
  rw [step, State.advance, popTurn_of_agenda h, nextTurn_of_agenda h]

/-- Where nothing is scheduled the next turn is one of `SEQ` or of a DMA channel. -/
theorem agentTurn_cases (n : Nat) :
    agentTurn n = .seq ∨ (∃ ch k, agentTurn n = .dmaMove ch k) ∨ ∃ ch, agentTurn n = .dmaDone ch := by
  unfold agentTurn
  split <;> simp

/-- Every turn of `SEQ` and of a DMA channel is one of them. -/
theorem agentTurn_every :
    (∃ n, agentTurn n = .seq) ∧ ∀ ch, (∃ n, agentTurn n = .dmaDone ch)
      ∧ ∀ k, ∃ n, agentTurn n = .dmaMove ch k := by
  have h (k j : Nat) (hj : j < 5) : (5 * k + j) % 5 = j ∧ (5 * k + j) / 5 = k := by omega
  refine ⟨⟨0, rfl⟩, fun ch => ?_⟩
  cases ch
  · exact ⟨⟨3, rfl⟩, fun k => ⟨5 * k + 1, by simp [agentTurn, h k 1 (by decide)]⟩⟩
  · exact ⟨⟨4, rfl⟩, fun k => ⟨5 * k + 2, by simp [agentTurn, h k 2 (by decide)]⟩⟩

/-- Everything a step can do. -/
theorem step_eq (s : State) : step s = s.popTurn.turn exec s.nextTurn := rfl

theorem step_seq {s : State} (h : s.nextTurn = .seq) :
    step s = match s.popTurn.running with
      | some i => exec i s.popTurn
      | none => .next s.popTurn := by
  rw [step_eq, h]
  rfl

end Sys2Proof.Machine
end

