-- ==== Sys2Proof/Laws/Memory.lean ====
section
/-! SUPPORT. System memory: a read after a write, and that every operation keeps the canonical form. -/

namespace Sys2Proof.Machine

theorem succ_addr (a : Word) (k : Nat) :
    a + 1 + BitVec.ofNat 32 k = a + BitVec.ofNat 32 (k + 1) := by
  have h1 : (1 : Word).toNat = 1 := rfl
  apply BitVec.eq_of_toNat_eq
  simp only [BitVec.toNat_add, BitVec.toNat_ofNat, h1]
  omega

theorem addr_ne_succ (a : Word) (j : Nat) (hj : j + 1 < 2 ^ 32) :
    a.toNat ≠ (a + 1 + BitVec.ofNat 32 j).toNat := by
  have h1 : (1 : Word).toNat = 1 := rfl
  have := a.isLt
  simp only [BitVec.toNat_add, BitVec.toNat_ofNat, h1]
  omega

/-- All addresses of a list lie above `k`. -/
abbrev Memory.above (m : Memory) (k : Nat) : Prop := ∀ c ∈ m, k < c.1

theorem read_of_above {m : Memory} {a : Nat} (h : m.above a) : m.read a = unlistedByte := by
  induction m with
  | nil => rfl
  | cons c m ih =>
    obtain ⟨k, b⟩ := c
    have hk : a < k := h (k, b) (by simp)
    simp only [Memory.read, if_neg (by omega : k ≠ a)]
    exact ih fun d hd => h d (by simp [hd])

theorem read_insert (m : Memory) (a : Nat) (v : Byte) (b : Nat) :
    (m.insert a v).read b = if b = a then v else m.read b := by
  induction m with
  | nil => simp only [Memory.insert, Memory.read, @eq_comm _ a b]
  | cons c m ih =>
    obtain ⟨k, x⟩ := c
    simp only [Memory.insert]
    split
    · simp only [Memory.read, @eq_comm _ a b]
    · split
      · next h =>
        simp only [Memory.read, ← h, @eq_comm _ a b]
        split <;> rfl
      · simp only [Memory.read, ih]; split <;> split <;> simp_all

theorem mem_erase {m : Memory} {a : Nat} {c : Host.Cell} (h : c ∈ m.erase a) : c ∈ m := by
  induction m with
  | nil => simp [Memory.erase] at h
  | cons d m ih =>
    obtain ⟨k, x⟩ := d
    simp only [Memory.erase] at h
    split at h
    · simp [h]
    · rcases List.mem_cons.1 h with h | h
      · simp [h]
      · simp [ih h]

theorem mem_insert {m : Memory} {a : Nat} {v : Byte} {c : Host.Cell} (h : c ∈ m.insert a v) :
    c = (a, v) ∨ c ∈ m := by
  induction m with
  | nil => simpa [Memory.insert] using h
  | cons d m ih =>
    obtain ⟨k, x⟩ := d
    simp only [Memory.insert] at h
    split at h
    · simpa using h
    · split at h
      · simp only [List.mem_cons] at h ⊢; tauto
      · simp only [List.mem_cons] at h ⊢
        rcases h with h | h
        · simp [h]
        · rcases ih h with h | h <;> simp [h]

theorem read_erase {m : Memory} (hm : m.Pairwise fun x y => x.1 < y.1) (a b : Nat) :
    (m.erase a).read b = if b = a then unlistedByte else m.read b := by
  induction m with
  | nil => simp [Memory.erase, Memory.read]
  | cons c m ih =>
    obtain ⟨k, x⟩ := c
    rw [List.pairwise_cons] at hm
    simp only [Memory.erase]
    split
    · next hk =>
      subst hk
      split
      · next hb => subst hb; exact read_of_above fun d hd => hm.1 d hd
      · next hb => simp [Memory.read, Ne.symm hb]
    · next hk =>
      simp only [Memory.read, ih hm.2]
      split <;> split <;> simp_all

/-- A read after a write: the written byte at its address, the old byte elsewhere. -/
theorem read_write {m : Memory} (hm : m.wf) (a : Nat) (v : Byte) (b : Nat) :
    (m.write a v).read b = if b = a then v else m.read b := by
  unfold Memory.write
  split
  · next h => rw [read_erase hm.1, h]
  · exact read_insert m a v b

theorem wf_nil : Memory.wf [] := by simp [Memory.wf]

theorem wf_erase {m : Memory} (hm : m.wf) (a : Nat) : (m.erase a).wf := by
  refine ⟨?_, fun c hc => hm.2 c (mem_erase hc)⟩
  have h := hm.1
  clear hm
  induction m with
  | nil => simp [Memory.erase]
  | cons c m ih =>
    obtain ⟨k, x⟩ := c
    rw [List.pairwise_cons] at h
    simp only [Memory.erase]
    split
    · exact h.2
    · exact List.pairwise_cons.2 ⟨fun d hd => h.1 d (mem_erase hd), ih h.2⟩

theorem wf_insert {m : Memory} (hm : m.wf) {a : Nat} (ha : a < 2 ^ 32) {v : Byte}
    (hv : v ≠ unlistedByte) : (m.insert a v).wf := by
  refine ⟨?_, fun c hc => ?_⟩
  · have h := hm.1
    clear hm
    induction m with
    | nil => simp [Memory.insert]
    | cons c m ih =>
      obtain ⟨k, x⟩ := c
      rw [List.pairwise_cons] at h
      simp only [Memory.insert]
      split
      · next hk =>
        refine List.pairwise_cons.2 ⟨fun d hd => ?_, List.pairwise_cons.2 h⟩
        rcases List.mem_cons.1 hd with hd | hd
        · subst hd; exact hk
        · exact Nat.lt_trans hk (h.1 d hd)
      · split
        · next hk => subst hk; exact List.pairwise_cons.2 ⟨fun d hd => h.1 d hd, h.2⟩
        · refine List.pairwise_cons.2 ⟨fun d hd => ?_, ih h.2⟩
          rcases mem_insert hd with hd | hd
          · subst hd; simp only; omega
          · exact h.1 d hd
  · rcases mem_insert hc with hc | hc
    · subst hc; exact ⟨ha, hv⟩
    · exact hm.2 c hc

/-- A write keeps the canonical form. -/
theorem wf_write {m : Memory} (hm : m.wf) {a : Nat} (ha : a < 2 ^ 32) (v : Byte) :
    (m.write a v).wf := by
  unfold Memory.write
  split
  · exact wf_erase hm a
  · next h => exact wf_insert hm ha h

/-- A store keeps the canonical form. -/
theorem wf_store {m : Memory} (hm : m.wf) (a : Word) (sz v : Nat) : (m.store a sz v).wf := by
  induction sz generalizing m a v with
  | zero => exact hm
  | succ sz ih => exact ih (wf_write hm a.isLt _) _ _

/-- A store changes none but its own bytes. -/
theorem read_store_other {m : Memory} (hm : m.wf) (a : Word) (sz v b : Nat)
    (hb : ∀ k < sz, b ≠ (a + BitVec.ofNat 32 k).toNat) : (m.store a sz v).read b = m.read b := by
  induction sz generalizing m a v with
  | zero => rfl
  | succ sz ih =>
    have h0 : b ≠ a.toNat := by simpa using hb 0 (by omega)
    rw [Memory.store, ih (wf_write hm a.isLt _) (a + 1), read_write hm, if_neg h0]
    intro k hk
    have h := hb (k + 1) (by omega)
    rwa [succ_addr]

/-- A store puts byte `k` of its value at `a + k`. -/
theorem read_store_same {m : Memory} (hm : m.wf) (a : Word) (sz v k : Nat) (hk : k < sz)
    (hsz : sz ≤ 2 ^ 32) :
    (m.store a sz v).read (a + BitVec.ofNat 32 k).toNat = BitVec.ofNat 8 (v / 256 ^ k) := by
  induction sz generalizing m a v k with
  | zero => omega
  | succ sz ih =>
    rw [Memory.store]
    cases k with
    | zero =>
      rw [read_store_other (wf_write hm a.isLt _), read_write hm]
      · simp
      · exact fun j hj => by simpa using addr_ne_succ a j (by omega)
    | succ k =>
      have h := ih (wf_write hm a.isLt (BitVec.ofNat 8 v)) (a + 1) (v / 256) k (by omega) (by omega)
      rw [succ_addr] at h
      rw [h, Nat.div_div_eq_div_mul, Nat.pow_succ, Nat.mul_comm]

/-! ## The host's view -/

/-- A list of stores keeps the canonical form. -/
theorem wf_storeAll {m : Memory} (hm : m.wf) (ws : List Stored) : (m.storeAll ws).wf := by
  induction ws generalizing m with
  | nil => exact hm
  | cons w ws ih => exact ih (wf_store hm _ _ _)

@[simp] theorem storeAll_append (m : Memory) (us ws : List Stored) :
    m.storeAll (us ++ ws) = (m.storeAll us).storeAll ws := List.foldl_append

@[simp] theorem push_seen (v : HostView) (w : Stored) : (v.push w).seen = v.seen := rfl

/-- One more store in the view is one more store in its memory. -/
@[simp] theorem whole_push (v : HostView) (w : Stored) :
    (v.push w).whole = v.whole.store w.addr w.size w.value.toNat := storeAll_append _ _ [w]

/-- With no later store a view shows one memory. -/
@[simp] theorem shown_synced (m : Memory) (pick : Nat) : HostView.shown ⟨m, []⟩ pick = m := rfl

@[simp] theorem whole_synced (m : Memory) : HostView.whole ⟨m, []⟩ = m := rfl

/-- Whatever the host sees is in canonical form. -/
theorem wf_shown {v : HostView} (hv : v.seen.wf) (pick : Nat) : (v.shown pick).wf :=
  wf_storeAll hv _

/-- The host sees some of the stores, in order, -/
theorem visible_sublist (pick : Nat) (ws : List Stored) : (visible pick ws).Sublist ws := by
  induction ws generalizing pick with
  | nil => exact .slnil
  | cons w ws ih =>
    unfold visible
    split
    · exact (ih _).cons_cons w
    · exact (ih _).cons w

/-- all its own among them, -/
theorem visible_own (pick : Nat) (ws : List Stored) :
    (visible pick ws).filter (·.own) = ws.filter (·.own) := by
  induction ws generalizing pick with
  | nil => rfl
  | cons w ws ih =>
    unfold visible
    split
    · simp [List.filter_cons, ih]
    · next h =>
      have : w.own = false := by cases hw : w.own <;> simp_all
      simp [this, ih]

/-- and any choice of the others. -/
theorem exists_visible {us ws : List Stored} (h : us.Sublist ws)
    (ho : us.filter (·.own) = ws.filter (·.own)) : ∃ pick, visible pick ws = us := by
  induction h with
  | slnil => exact ⟨0, rfl⟩
  | @cons us ws w h ih =>
    have hw : w.own = false := by
      cases hw : w.own with
      | false => rfl
      | true =>
        have := (h.filter (·.own)).length_le
        rw [ho, List.filter_cons_of_pos (by exact hw)] at this
        simp at this
    obtain ⟨p, hp⟩ := ih (by simpa [hw] using ho)
    exact ⟨2 * p, by simpa [visible, hw] using hp⟩
  | @cons_cons us ws w h ih =>
    obtain ⟨p, hp⟩ := ih (by
      cases hw : w.own <;> simpa [List.filter_cons, hw] using ho)
    refine ⟨2 * p + 1, ?_⟩
    have h2 : (2 * p + 1) / 2 = p := by omega
    have h1 : (2 * p + 1) % 2 = 1 := by omega
    simp [visible, h1, h2, hp]

end Sys2Proof.Machine
end

