-- ==== Sys2Proof/Laws/PerInstr.lean ====
section
/-! SUPPORT. Statements made of every command as syntax, one lemma per constructor. -/

namespace Sys2Proof.Laws

/-- The word of a format-W command: its opcode, with a width above it. -/
theorem opField_word (op : BitVec 8) (n : Nat) :
    opField (op.setWidth 32 ||| BitVec.ofNat 32 n <<< 8) = op := by
  ext i hi
  have : i < 32 := by omega
  simp [opField, hi, this]

theorem widthField_word (op : BitVec 8) {n : Nat} (h : n < 64) :
    widthField (op.setWidth 32 ||| BitVec.ofNat 32 n <<< 8) = n := by
  have : (op.setWidth 32 ||| BitVec.ofNat 32 n <<< 8).extractLsb' 8 6 = BitVec.ofNat 6 n := by
    ext i hi
    have h8 : 8 + i < 32 := by omega
    simp [h8, ← BitVec.getLsbD_eq_getElem, BitVec.getLsbD_ofNat, hi, show i < 32 by omega]
  simp only [widthField, this, BitVec.toNat_ofNat]
  omega

theorem reserved_word (op : BitVec 8) {n : Nat} (h : n < 64) :
    (op.setWidth 32 ||| BitVec.ofNat 32 n <<< 8) &&& Format.w.reserved = 0 := by
  have mask : ∀ i, i < 14 → Format.w.reserved.getLsbD i = false := by decide
  apply BitVec.eq_of_getLsbD_eq
  intro i hi
  rw [BitVec.getLsbD_and]
  by_cases h14 : i < 14
  · rw [mask i h14]; simp
  · have hop : op.getLsbD i = false := BitVec.getLsbD_of_ge _ _ (by omega)
    have hp : 2 ^ 6 ≤ 2 ^ (i - 8) := Nat.pow_le_pow_right (by decide) (by omega)
    have hn : n.testBit (i - 8) = false := Nat.testBit_lt_two_pow (by omega)
    simp [hop, hn, BitVec.getLsbD_ofNat]

theorem decode_word {op : BitVec 8} {n : Nat} {i : Instr} (h : n < 64)
    (hi : ∀ t r, instrOf op n t r = some i) (hf : i.format = .w) :
    decode (op.setWidth 32 ||| BitVec.ofNat 32 n <<< 8) = .ok i := by
  simp only [decode, opField_word, widthField_word op h, hi, hf, reserved_word op h, if_true]

namespace RoundTrip

/-- A well-formed command's word decodes to the command, every operand bit kept (R91, R92). -/
def Statement (i : Instr) : Prop := i.wf → decode (encode i) = .ok i

theorem init : Statement .init := fun _ => by decide
theorem deinit : Statement .deinit := fun _ => by decide
theorem setConfig : Statement .setConfig := fun _ => by decide
theorem getConfig : Statement .getConfig := fun _ => by decide
theorem flush : Statement .flush := fun _ => by decide
theorem abort : Statement .abort := fun _ => by decide
theorem enSet : Statement .enSet := fun _ => by decide
theorem enClr : Statement .enClr := fun _ => by decide
theorem drain : Statement .drain := fun _ => by decide
theorem poll : Statement .poll := fun _ => by decide
theorem finish : Statement .finish := fun _ => by decide
theorem dmaen (t r : BitVec 1) : Statement (.dmaen t r) := by
  intro _
  rcases BitVec.eq_zero_or_eq_one t with rfl | rfl <;>
    rcases BitVec.eq_zero_or_eq_one r with rfl | rfl <;> decide

theorem setWidth (n : Nat) : Statement (.setWidth n) := fun h => decode_word h (fun _ _ => rfl) rfl
theorem blkWrite (n : Nat) : Statement (.blkWrite n) := fun h => decode_word h (fun _ _ => rfl) rfl
theorem blkRead (n : Nat) : Statement (.blkRead n) := fun h => decode_word h (fun _ _ => rfl) rfl
theorem blkXfer (n : Nat) : Statement (.blkXfer n) := fun h => decode_word h (fun _ _ => rfl) rfl
theorem blkXferIp (n : Nat) : Statement (.blkXferIp n) := fun h => decode_word h (fun _ _ => rfl) rfl
theorem dmaWrite (n : Nat) : Statement (.dmaWrite n) := fun h => decode_word h (fun _ _ => rfl) rfl
theorem dmaRead (n : Nat) : Statement (.dmaRead n) := fun h => decode_word h (fun _ _ => rfl) rfl
theorem dmaXfer (n : Nat) : Statement (.dmaXfer n) := fun h => decode_word h (fun _ _ => rfl) rfl
theorem dmaXferIp (n : Nat) : Statement (.dmaXferIp n) := fun h => decode_word h (fun _ _ => rfl) rfl

end RoundTrip

end Sys2Proof.Laws
end

