-- ==== Sys2Proof/Laws/Stores.lean ====
section
/-! SUPPORT. Which steps store to memory, said once: the step L4 of a blocking command, and no other
step of a command. -/

namespace Sys2Proof.Machine

/-- Memory, and what the host is to see of it, are the same in both states. -/
abbrev SameMemory (s t : State) : Prop := t.mem = s.mem ∧ t.view = s.view

/-- The store of a blocking command's sink (R178 L4). -/
abbrev sinkStored (s : State) : State := (sinkMem s).goto (.blk .l5)

theorem pollFor_memory (f : Sample → Bool) (here ret : Label) (s : State) :
    SameMemory s (pollFor f here ret s) := by
  unfold pollFor
  split <;> exact ⟨rfl, rfl⟩

theorem setWordWidth_memory {cont : State → State} {s : State} (h : SameMemory s (cont s))
    (wrap : WidthLabel → Label) (ret : Label) (l : WidthLabel) :
    SameMemory s (setWordWidth wrap ret cont l s) := by
  unfold setWordWidth widthStart
  (repeat' split) <;> first | exact h | exact ⟨rfl, rfl⟩

theorem drain_memory {cont : State → State} {s : State} (h : SameMemory s (cont s))
    (wrap : DrainLabel → Label) (ret : Label) (l : DrainLabel) :
    SameMemory s (drain wrap ret cont l s) := by
  unfold drain
  (repeat' split) <;> first | exact h | exact ⟨rfl, rfl⟩

theorem finishDma_memory (wrap : FinishLabel → Label) (ret : Label) (l : FinishLabel) (s : State) :
    SameMemory s (finishDma wrap ret l s) := by
  cases l <;> exact ⟨rfl, rfl⟩

theorem initStep_memory (l : InitLabel) (s : State) : SameMemory s (initStep l s) := by
  have h3 (g : Nat) : SameMemory s (initI3 g s) := by
    unfold initI3; split <;> exact ⟨rfl, rfl⟩
  cases l with
  | i1 => simp only [initStep, keepDivisor]; split <;> exact ⟨rfl, rfl⟩
  | i2 => simp only [initStep, initI2]; split
          · exact ⟨rfl, rfl⟩
          · exact h3 0
  | i3 g => exact h3 g
  | _ => exact ⟨rfl, rfl⟩

theorem deinitStep_memory (l : DeinitLabel) (s : State) : SameMemory s (deinitStep l s) := by
  unfold deinitStep deinitDi0 deinitDi1 deinitDi2
  (repeat' split) <;> exact ⟨rfl, rfl⟩

theorem setConfigStep_memory (l : SetConfigLabel) (s : State) :
    SameMemory s (setConfigStep l s) := by
  unfold setConfigStep keepDivisor
  (repeat' split) <;> exact ⟨rfl, rfl⟩

theorem getConfigStep_memory (l : GetConfigLabel) (s : State) :
    SameMemory s (getConfigStep l s) := by
  cases l <;> exact ⟨rfl, rfl⟩

theorem setWidthStep_memory (l : SetWidthLabel) (s : State) : SameMemory s (setWidthStep l s) := by
  cases l with
  | sw0 w => exact setWordWidth_memory ⟨rfl, rfl⟩ _ _ w
  | sw1 => exact ⟨rfl, rfl⟩

theorem abortStep_memory (l : AbortLabel) (s : State) : SameMemory s (abortStep l s) := by
  unfold abortStep abortA0 abortA1
  (repeat' split) <;> exact ⟨rfl, rfl⟩

theorem dmaStep_memory (d : DmaSpec) (l : DmaLabel) (s : State) : SameMemory s (dmaStep d l s) := by
  have h4 : SameMemory s (dmaM4 d s) := by
    unfold dmaM4 dmaM5
    (repeat' split) <;> exact ⟨rfl, rfl⟩
  cases l with
  | m0 => simp only [dmaStep, dmaM0]; (repeat' split) <;> exact ⟨rfl, rfl⟩
  | m1 w => exact setWordWidth_memory ⟨rfl, rfl⟩ _ _ w
  | m3 l =>
    simp only [dmaStep, dmaM3]
    split
    · exact drain_memory h4 _ _ l
    · exact h4
  | m4 => exact h4
  | m5 => simp only [dmaStep, dmaM5]; split <;> exact ⟨rfl, rfl⟩
  | m9 => simp only [dmaStep, dmaM9]; split <;> exact ⟨rfl, rfl⟩
  | m11 => simp only [dmaStep, dmaM11]; split <;> exact ⟨rfl, rfl⟩
  | m12 f => exact finishDma_memory _ _ f s
  | _ => exact ⟨rfl, rfl⟩

/-- A blocking command stores only at L4, and there what its sink stores. -/
theorem blkStep_memory {b : BlkSpec} (hsrc : ∀ s, SameMemory s (b.src s)) (l : BlkLabel) (s : State) :
    SameMemory s (blkStep b l s) ∨ l = .l4 ∧ blkStep b l s = (b.sink s).goto (.blk .l5) := by
  cases l with
  | b1 d =>
    exact .inl (drain_memory (setWordWidth_memory (cont := blkL0 b) ⟨rfl, rfl⟩ _ _ .w0) _ _ d)
  | b2 w => exact .inl (setWordWidth_memory (cont := blkL0 b) ⟨rfl, rfl⟩ _ _ w)
  | l2 => exact .inl (hsrc s)
  | l4 => exact .inr ⟨rfl, rfl⟩
  | t0 => exact .inl (pollFor_memory _ _ _ s)
  | t2 =>
    simp only [blkStep, blkT2]
    split
    · exact .inl ⟨rfl, rfl⟩
    · exact .inl (pollFor_memory _ _ _ s)
  | t3 => exact .inl (pollFor_memory _ _ _ s)
  | _ => exact .inl ⟨rfl, rfl⟩

/-- Everything a step of a micro-program can do to memory. -/
theorem progOf_memory {i : Instr} {l : Label} {s t : State} (h : progOf i l s = some t) :
    SameMemory s t ∨ isBlocking i = true ∧ l = .blk .l4 ∧ t = sinkStored s := by
  have blk {b : BlkSpec} {l : BlkLabel} (hb : isBlocking i = true)
      (hsrc : ∀ s, SameMemory s (b.src s))
      (hsink : b.sink s = s ∨ b.sink s = sinkMem s) (hl : blkStep b l s = t) :
      SameMemory s t ∨ isBlocking i = true ∧ Label.blk l = .blk .l4 ∧ t = sinkStored s := by
    rcases blkStep_memory hsrc l s with h | ⟨rfl, h⟩
    · exact .inl (hl ▸ h)
    · rw [hl] at h
      rcases hsink with hs | hs <;> rw [hs] at h <;> subst h
      · exact .inl ⟨rfl, rfl⟩
      · exact .inr ⟨hb, rfl, rfl⟩
  cases i <;> cases l <;> cases h
  case init l => exact .inl (initStep_memory l s)
  case deinit l => exact .inl (deinitStep_memory l s)
  case setConfig l => exact .inl (setConfigStep_memory l s)
  case getConfig l => exact .inl (getConfigStep_memory l s)
  case setWidth l => exact .inl (setWidthStep_memory l s)
  case blkWrite l => exact blk rfl (fun _ => ⟨rfl, rfl⟩) (.inl rfl) rfl
  case blkRead l => exact blk rfl (fun _ => ⟨rfl, rfl⟩) (.inr rfl) rfl
  case blkXfer l =>
    refine blk rfl (fun s => ?_) ?_ rfl
    · simp only [blkXferSpec]; split <;> exact ⟨rfl, rfl⟩
    · simp only [blkXferSpec]; split
      · exact .inr rfl
      · exact .inl rfl
  case blkXferIp l => exact blk rfl (fun _ => ⟨rfl, rfl⟩) (.inr rfl) rfl
  case dmaWrite l => exact .inl (dmaStep_memory _ l s)
  case dmaRead l => exact .inl (dmaStep_memory _ l s)
  case dmaXfer l => exact .inl (dmaStep_memory _ l s)
  case dmaXferIp l => exact .inl (dmaStep_memory _ l s)
  case abort l => exact .inl (abortStep_memory l s)
  case drain d => exact .inl (drain_memory ⟨rfl, rfl⟩ _ _ d)
  case finish f => exact .inl (finishDma_memory _ _ f s)
  all_goals exact .inl ⟨rfl, rfl⟩

theorem attempt_memory (s : State) (i : Instr) : SameMemory s (s.attempt i) := by
  rcases attempt_cases s i with ⟨-, e⟩ | ⟨c, -, -, e⟩ | ⟨-, -, e⟩ <;> rw [e] <;> exact ⟨rfl, rfl⟩

/-- Everything a command can do to memory. -/
theorem exec_memory {i : Instr} {s t : State} (h : exec i s = .next t) :
    SameMemory s t ∨ isBlocking i = true ∧ At s i (.blk .l4) ∧ t = sinkStored s := by
  rcases exec_cases h with ⟨l, hl, hp⟩ | ⟨-, rfl⟩
  · rcases progOf_memory hp with h | ⟨hb, rfl, ht⟩
    · exact .inl h
    · exact .inr ⟨hb, hl, ht⟩
  · exact .inl (attempt_memory s i)

/-- The host's view loses no store (R75): what it sees with every store seen is memory. -/
abbrev ViewWhole (s : State) : Prop := s.view.seen.wf ∧ s.view.whole = s.mem

theorem SameMemory.viewWhole {s t : State} (h : SameMemory s t) (hs : ViewWhole s) : ViewWhole t := by
  rw [ViewWhole, h.1, h.2]; exact hs

/-- A store keeps the host's view whole. -/
theorem store_viewWhole {s : State} (hs : ViewWhole s) (w : Stored) : ViewWhole (s.store w) :=
  ⟨hs.1, by rw [store_view, whole_push, hs.2, store_mem]⟩

/-- The host's view is whole when it has just read `DONE` = 1. -/
theorem synced_viewWhole {m : Memory} (hm : m.wf) : (HostView.mk m []).seen.wf ∧
    (HostView.mk m []).whole = m := ⟨hm, rfl⟩

/-- Every command keeps the host's view whole. -/
theorem exec_viewWhole {i : Instr} {s t : State} (hs : ViewWhole s) (h : exec i s = .next t) :
    ViewWhole t := by
  rcases exec_memory h with h | ⟨-, -, rfl⟩
  · exact h.viewWhole hs
  · exact store_viewWhole hs _

/-- The turns of the other agents, and of the host on its own registers, keep it whole. -/
theorem turn_viewWhole {s t : State} {u : Turn} (hm : s.mem.wf) (hs : ViewWhole s)
    (h : s.turn exec u = .next t) : ViewWhole t := by
  have sync : ∀ off, ViewWhole (s.afterRead off) := fun off => by
    rw [ViewWhole, afterRead_view, afterRead_mem]
    split
    · exact synced_viewWhole hm
    · exact hs
  cases u with
  | seq =>
    simp only [State.turn, State.seqTurn] at h
    split at h
    · exact exec_viewWhole hs h
    · cases h; exact hs
  | hostWrite off size v =>
    simp only [State.turn, State.hostWrite] at h
    split at h
    · split at h
      · unfold State.writeCmd at h
        split at h
        · cases h; exact hs
        · split at h
          · cases h; exact hs
          · exact exec_viewWhole (s := s.record (.hostWrite off v)) hs h
      · cases h
        unfold State.writeReg
        (repeat' split) <;> exact hs
      · cases h; exact hs
    · cases h
  | hostRead off size =>
    simp only [State.turn, State.hostRead] at h
    split at h <;> cases h
    exact sync off
  | hostWait =>
    cases h
    unfold State.pollDone
    split
    · exact sync 0x004
    · exact hs
  | memWrite a size v => cases h; exact store_viewWhole hs _
  | memRead a size => cases h; exact hs
  | dmaMove ch k =>
    cases h
    unfold State.dmaMove
    cases ch <;> (repeat' split) <;> first | exact hs | exact store_viewWhole hs _
  | dmaDone ch =>
    cases h
    unfold State.dmaDone
    cases ch <;> (repeat' split) <;> exact hs
  | reset => cases h; exact synced_viewWhole hm

/-- Every step keeps the host's view whole. -/
theorem step_viewWhole {s t : State} (hm : s.mem.wf) (hs : ViewWhole s) (h : step s = .next t) :
    ViewWhole t := turn_viewWhole (s := s.popTurn) hm hs h

end Sys2Proof.Machine
end

