-- ==== Sys2Proof/Tests/Slice0.lean ====
section
/-! SUPPORT. Tests. Expected results come from spec/95_test_vectors.md and the encodings of
spec/30_encoding.md; the witnesses show states that meet the hypotheses of the statements. -/

namespace Sys2Proof.Tests

open Sys2Proof.Machine

/-! ## Small states -/

def zeroCtl : Ctl := ⟨0, 0, 0, 0, 0, 0, 0, 0, 0, 0, 0, 0, 0, []⟩

/-- The default parameters, with numbers for the open ones. -/
def params (g : Gen) : Params :=
  { Config.defaults g with
    subvar := 0, fieldMap := [], periphReset := zeroCtl, txdrAddr := 0x4000300C
    rxdrAddr := 0x40003010, txReq := 1, rxReq := 2, hostBase := 0x50000000 }

/-- IDLE after INIT, with operands: `TXADDR` 0x20000000, `RXADDR` 0x20000100, lengths 2, `KCLK`
8 MHz, `FREQ` 1 MHz, everything bound. -/
def idle (g : Gen) : State :=
  { State.resetWith (params g) with
    status := ⟨.idle, true, false, .ok, .none⟩, curWidth := 8, ctl := zeroCtl, clkOn := true
    pins := ⟨true, true, true⟩
    regs := ⟨0, 1000000, 0x3F, 0x20000000, 0x20000100, 2, 2, 8000000, 0, 0, 0, 0⟩ }

/-- UNINIT after reset, with operands and a clock of 8 MHz. -/
def fresh (g : Gen) : State :=
  { State.resetWith (params g) with
    ctl := zeroCtl
    regs := ⟨0, 1000000, 0x3F, 0, 0, 0, 0, 0, 0, 0, 0, 0⟩
    env := ⟨[], [], [], [], [], [8000000], [], 1⟩ }

/-- The command `i` stands at label `l`. -/
def run (g : Gen) (i : Instr) (l : Label) : State :=
  { idle g with
    status := ⟨.busy, false, false, .ok, .none⟩, latch := (idle g).latch.accept i, mpc := some l }

/-- DMA_XFER suspended at its join, both channels in flight, the receive channel done if `rxdone`. -/
def waiting (rxdone : Bool) : State :=
  { run .gen2 (.dmaXfer 8) (.dma .m11) with
    status := ⟨.waitDma, false, false, .ok, .none⟩, join := ⟨true, true, false, rxdone⟩
    txch := some ⟨⟨.m2p, 0x4000300C, .addr 0x20000000, 2, 1, 1, .default⟩, []⟩
    rxch := if rxdone then none
      else some ⟨⟨.p2m, 0x40003010, .addr 0x20000100, 2, 1, 2, .default⟩, []⟩ }

/-- The next turn is `t`. -/
def facing (t : Turn) (s : State) : State := { s with env := { s.env with agenda := [t] } }

/-- The peripheral answers the samples `xs` and the data `ds`. -/
def answering (xs : List Sample) (ds : List Word) (s : State) : State :=
  { s with env := { s.env with samples := xs, reads := ds } }

def sample (ovr fre modf crce txrdy rxrdy bsy tc : Bool) : Sample :=
  ⟨ovr, fre, modf, crce, txrdy, rxrdy, bsy, tc⟩

/-- Both ready flags, no error. -/
def bothReady : Sample := sample false false false false true true false true

/-- The step answers a next state with property `p`. -/
def after (o : Host.Outcome State Fault Refusal) (p : State → Bool) : Bool :=
  match o with
  | .next t => p t
  | .fault _ => false
  | .refused _ => false

def lastEvent (t : State) : Option Event := t.trace.getLast?

def statusOf (t : State) : Word := t.readReg .status

/-! ## Well-formedness, encoding -/

/-- R92: the width field has six bits. -/
theorem test_wf_refuses_wide_width :
    ∀ i ∈ [Instr.setWidth 64, .blkWrite 64, .blkRead 64, .blkXfer 64, .blkXferIp 64, .dmaWrite 64,
      .dmaRead 64, .dmaXfer 64, .dmaXferIp 64], ¬i.wf := by decide

theorem test_decode_lifecycle :
    decode 0x00000001#32 = .ok .init ∧ decode 0x00000002#32 = .ok .deinit
    ∧ decode 0x00000003#32 = .ok .setConfig ∧ decode 0x00000004#32 = .ok .getConfig
    ∧ decode 0x00000006#32 = .ok .flush := by decide

theorem test_decode_width : decode 0x00000405#32 = .ok (.setWidth 4) := by decide

theorem test_decode_blocking :
    decode 0x00000810#32 = .ok (.blkWrite 8) ∧ decode 0x00000C11#32 = .ok (.blkRead 12)
    ∧ decode 0x00000812#32 = .ok (.blkXfer 8) ∧ decode 0x00002013#32 = .ok (.blkXferIp 32) := by
  decide

theorem test_decode_dma :
    decode 0x00000820#32 = .ok (.dmaWrite 8) ∧ decode 0x00001021#32 = .ok (.dmaRead 16)
    ∧ decode 0x00001022#32 = .ok (.dmaXfer 16) ∧ decode 0x00002023#32 = .ok (.dmaXferIp 32)
    ∧ decode 0x00000030#32 = .ok .abort := by decide

theorem test_decode_primitives :
    decode 0x00000040#32 = .ok .enSet ∧ decode 0x00000041#32 = .ok .enClr
    ∧ decode 0x00000042#32 = .ok .drain ∧ decode 0x00000043#32 = .ok .poll
    ∧ decode 0x00000344#32 = .ok (.dmaen 1 1) ∧ decode 0x00000144#32 = .ok (.dmaen 1 0)
    ∧ decode 0x00000045#32 = .ok .finish := by decide

theorem test_decode_refuses :
    decode 0x00000000#32 = .error .reservedOpcode ∧ decode 0x00000007#32 = .error .reservedOpcode
    ∧ decode 0x000000FF#32 = .error .reservedOpcode ∧ decode 0x00010006#32 = .error .reservedBits
    ∧ decode 0x00000106#32 = .error .reservedBits ∧ decode 0x00004810#32 = .error .reservedBits
    ∧ decode 0x00000444#32 = .error .reservedBits := by decide

theorem test_encode_width : encode (.blkXfer 8) = 0x00000812#32 := by decide

theorem test_table_word : decodeTableWord 32 0x812 = some (.blkXfer 8) := by decide

/-- From reset, with INIT's word placed, the next step accepts INIT. -/
theorem test_fetch_init :
    after (step (State.reset.withFetchWord 32 0x1)) (fun t =>
      t.status.fsm == .busy && t.mpc == some (.init .i0)) = true := by decide

/-- V-R-3: after reset every command but INIT is ILLEGAL. -/
theorem test_fetch_getConfig_after_reset :
    after (step (State.reset.withFetchWord 32 0x4)) (fun t => statusOf t == 0x00000508) = true := by
  decide

/-! ## Lifecycle and configuration -/

/-- S4: `CFG` = 5. -/
theorem test_init_mode_fields :
    after (exec .init { run .gen2 .init (.init .i4) with regs := { (idle .gen2).regs with cfg := 5 } })
      (fun t => lastEvent t == some (.fw [.cpol 1, .cpha 0, .lsbf 1])) = true := by decide

/-- V-INIT-2. -/
theorem test_init_width_fields :
    after (exec .init (run .gen2 .init (.init .i6)))
      (fun t => lastEvent t == some (.fw [.ds 7, .fth 1])) = true := by decide

/-- V-DEINIT-1: with MOSI not owned, the step at DI1 disconnects MISO. -/
theorem test_deinit_skips_pin :
    after (exec .deinit { run .gen1 .deinit (.deinit .di1) with
      regs := { (idle .gen1).regs with bind := 0x05 } }) (fun t =>
        lastEvent t == some (.pd .miso)) = true := by decide

/-- V-SETCFG-2. -/
theorem test_setConfig_over_request :
    after (exec .setConfig { run .gen2 .setConfig (.setConfig .s0) with
      regs := { (idle .gen2).regs with freq := 9000000 } }) (fun t =>
        statusOf t == 0x0000290C) = true := by decide

/-- Section 4: `FREQ` = 500_000 gives divisor 16. -/
theorem test_setConfig_divisor :
    after (exec .setConfig { run .gen2 .setConfig (.setConfig .s0) with
      regs := { (idle .gen2).regs with freq := 500000 } }) (fun t => t.vars.dv == .d16) = true := by
  decide

/-- Section 4, GET_CONFIG. -/
theorem test_getConfig :
    after (exec .getConfig { run .gen2 .getConfig (.getConfig .g0) with
      ctl := { zeroCtl with cpol := 1, cpha := 1, br := 3 } }) (fun t =>
        t.regs.rdcfg == 0x00100003 && t.regs.rdfreq == 500000) = true := by decide

/-- V-FLUSH-1. -/
theorem test_flush :
    after (exec .flush (run .gen2 .flush .f0)) (fun t =>
      statusOf t == 0x00000009 && t.trace == []) = true := by decide

/-! ## Width -/

/-- V-W-6. -/
theorem test_setWidth_gen3_field :
    after (exec (.setWidth 32) (run .gen3 (.setWidth 32) (.setWidth (.sw0 .w33))))
      (fun t => lastEvent t == some (.fw [.dsize 31])) = true := by decide

/-- V-W-2. -/
theorem test_setWidth_no_change :
    after (exec (.setWidth 8) (run .gen1 (.setWidth 8) (.setWidth (.sw0 .w0))))
      (fun t => statusOf t == 0x00000009 && t.trace == []) = true := by decide

/-! ## Blocking -/

/-- V-B-14: the address wraps. -/
theorem test_blkWrite_wraps :
    after (exec (.blkWrite 16) { run .gen2 (.blkWrite 16) (.blk .l2) with
      regs := { (idle .gen2).regs with txaddr := 0xFFFFFFFE }
      vars := { (idle .gen2).vars with i := 1 }
      mem := [(0, 0xCD), (1, 0xAB)] }) (fun t =>
        lastEvent t == some (.mr 0x00000000 2 0xABCD)) = true := by decide

/-- V-B-8: FRAMING wins over CRC and over TXRDY. -/
theorem test_blkWrite_framing :
    after (exec (.blkWrite 8) (answering [sample false true false true true false false false] []
        (run .gen2 (.blkWrite 8) (.blk .t0)))) (fun t =>
        statusOf t == 0x00000209 && t.regs.ssample == 0x1A) = true := by decide

/-- V-B-2: the element stored. -/
theorem test_blkRead_stores :
    after (exec (.blkRead 8) { run .gen2 (.blkRead 8) (.blk .l4) with
      vars := { (idle .gen2).vars with i := 1, rx := 0x5A } }) (fun t =>
        t.mem.read 0x20000101 == 0x5A && lastEvent t == some (.mw 0x20000101 1 0x5A)) = true := by
  decide

/-- V-B-3: past the transmit length, 0 is sent and no memory is read. -/
theorem test_blkXfer_pads :
    after (exec (.blkXfer 8) { run .gen2 (.blkXfer 8) (.blk .l2) with
      regs := { (idle .gen2).regs with txlen := 1, rxlen := 3 }
      vars := { (idle .gen2).vars with i := 1, tx := 7 } }) (fun t =>
        t.vars.tx == 0 && t.trace == []) = true := by decide

/-- V-B-4: past the receive length, the word is dropped. -/
theorem test_blkXfer_truncates :
    after (exec (.blkXfer 8) { run .gen2 (.blkXfer 8) (.blk .l4) with
      regs := { (idle .gen2).regs with txlen := 3, rxlen := 1 }
      vars := { (idle .gen2).vars with i := 1, rx := 7 } }) (fun t =>
        t.mem == [] && t.trace == []) = true := by decide

/-- V-B-5. -/
theorem test_blkXferIp_stores_little_endian :
    after (exec (.blkXferIp 16) { run .gen1 (.blkXferIp 16) (.blk .l4) with
      vars := { (idle .gen1).vars with rx := 0xABCD } }) (fun t =>
        t.mem.read 0x20000100 == 0xCD && t.mem.read 0x20000101 == 0xAB) = true := by decide

/-! ## DMA -/

/-- V-DMA-5: DMA_WRITE submits no receive transfer. -/
theorem test_dmaWrite_submits_tx_only :
    after (exec (.dmaWrite 8) { run .gen1 (.dmaWrite 8) (.dma .m4) with
      vars := { (idle .gen1).vars with n := 3 } }) (fun t =>
        lastEvent t == some (.ds .tx ⟨.m2p, 0x4000300C, .addr 0x20000000, 3, 1, 1, .default⟩)) = true := by
  decide

/-- V-DMA-4: the filler is the constant 0. -/
theorem test_dmaRead_constant :
    after (exec (.dmaRead 16) { run .gen3 (.dmaRead 16) (.dma .m6) with
      vars := { (idle .gen3).vars with n := 2 } }) (fun t =>
        lastEvent t == some (.ds .tx ⟨.m2p, 0x4000300C, .const 0, 2, 2, 1, .default⟩)) = true := by
  decide

/-- V-DMA-8: the length check comes before the zero check. -/
theorem test_dmaXfer_mismatch :
    after (exec (.dmaXfer 8) { run .gen2 (.dmaXfer 8) (.dma .m0) with
      regs := { (idle .gen2).regs with txlen := 0, rxlen := 3 } }) (fun t =>
        statusOf t == 0x0000390C && t.trace == []) = true := by decide

/-- V-DMA-6: both descriptors name the receive buffer. -/
theorem test_dmaXferIp_source :
    after (exec (.dmaXferIp 8) { run .gen2 (.dmaXferIp 8) (.dma .m6) with
      vars := { (idle .gen2).vars with n := 2 } }) (fun t =>
        lastEvent t == some (.ds .tx ⟨.m2p, 0x4000300C, .addr 0x20000100, 2, 1, 1, .default⟩)) = true := by
  decide

/-- V-ABORT-1: only the transmit channel is still in flight. -/
theorem test_abort_halts_tx :
    after (exec .abort { waiting true with
      status := ⟨.busy, false, false, .ok, .none⟩
      latch := (idle .gen2).latch.accept .abort, mpc := some (.abort .a0) }) (fun t =>
        lastEvent t == some (.dh .tx) && t.txch == none) = true := by decide

/-- V-ABORT-1: the end. -/
theorem test_abort_end :
    after (exec .abort { run .gen2 .abort (.abort .a4) with join := ⟨true, true, false, true⟩ })
      (fun t => statusOf t == 0x000E0809) = true := by decide

/-- Section 3: in WAIT_DMA a word that is not exactly ABORT's is ignored. -/
theorem test_wait_ignores :
    after (step (facing (.hostWrite 0x000 4 0x00010030) (waiting false))) (fun t =>
      statusOf t == 0x000C0013) = true := by decide

/-- V-DMA-2: the receive completion first. -/
theorem test_completion_rx :
    after (step { facing (.dmaDone .rx) (waiting false) with
      rxch := some ⟨⟨.p2m, 0x40003010, .addr 0x20000100, 2, 1, 2, .default⟩, [1, 0]⟩ }) (fun t =>
        statusOf t == 0x000E0003) = true := by decide

/-! ## Primitives -/

/-- V-P-1, V-P-2. -/
theorem test_enSet_enClr :
    after (exec .enSet (run .gen1 .enSet .es0)) (fun t => lastEvent t == some (.fw [.en 1])) = true
    ∧ after (exec .enClr (run .gen1 .enClr .ec0)) (fun t => lastEvent t == some (.fw [.en 0])) = true := by
  decide

/-- V-P-3: the read size is that of the programmed width. -/
theorem test_drain_size :
    after (exec .drain { answering [] [0xABCD1234] (run .gen1 .drain (.dn0 .dr1)) with curWidth := 16 })
      (fun t => lastEvent t == some (.dr 2 0x1234)) = true := by decide

/-- V-P-4. -/
theorem test_drain_gen3 :
    after (exec .drain (run .gen3 .drain (.dn0 .dr0))) (fun t =>
      statusOf t == 0x00000009 && t.trace == []) = true := by decide

/-- V-P-5: the sample. -/
theorem test_poll_sample :
    after (exec .poll (answering [sample true false false true true false false false] []
        (run .gen2 .poll .q0))) (fun t =>
        t.regs.ssample == 0x19 && t.vars.e == .overrun) = true := by decide

/-- V-P-5: the result. -/
theorem test_poll_result :
    after (exec .poll { run .gen2 .poll .q1 with vars := { (idle .gen2).vars with e := .overrun } })
      (fun t => statusOf t == 0x00000109) = true := by decide

/-- V-P-9. -/
theorem test_dmaen :
    after (exec (.dmaen 1 0) (run .gen2 (.dmaen 1 0) .de0)) (fun t =>
      lastEvent t == some (.fw [.txdmaen 1, .rxdmaen 0])) = true := by decide

/-- V-P-12 and V-P-11: what the wait looks at. -/
theorem test_finish_waits :
    after (exec .finish (answering [sample false false false false false false true false] []
        (run .gen1 .finish (.fn0 .fd0)))) (fun t =>
        t.mpc == some (.fn0 .fd0)) = true
    ∧ after (exec .finish (answering [sample false false false false false false true true] []
        (run .gen3 .finish (.fn0 .fd0)))) (fun t =>
        t.mpc == some (.fn0 .fd1)) = true := by decide

/-! ## The host port -/

/-- A store of one byte that a host's read of memory races with. -/
def racing (pick : Nat) : State :=
  { idle .gen1 with
    mem := [(0x20000100, 5)], view := ⟨[], [⟨0x20000100, 1, 5, false⟩]⟩
    env := { (idle .gen1).env with picks := [pick] } }

/-- R77: a racing read sees the store or not. -/
theorem test_racing_read :
    after (step (facing (.memRead 0x20000100 1) (racing 0)))
      (fun t => t.journal == [.memRead 0x20000100 1 0]) = true
    ∧ after (step (facing (.memRead 0x20000100 1) (racing 1)))
      (fun t => t.journal == [.memRead 0x20000100 1 5]) = true := by decide

/-- R75. -/
theorem test_read_of_done_ends_race :
    after (step (facing (.hostRead 0x004 4) (racing 0)))
      (fun t => t.view == ⟨[(0x20000100, 5)], []⟩) = true := by decide

/-- R103, R20: lines 6 to 8 of P3, with the steps of `SEQ` between them. -/
theorem test_program_gaps :
    ((idle .gen3).withProgram [.cmd (.dmaRead 16), .hr .status, .cmd .abort]
        [[], [.seq, .seq], [.dmaMove .rx 0, .hostWait]]).env.agenda
      = [.hostWrite 0x000 4 0x1021, .seq, .seq, .hostRead 0x004 4, .dmaMove .rx 0,
          .hostWrite 0x000 4 0x30] := by decide

/-- R304: a schedule that repeats the host's reads starves `SEQ`. -/
theorem test_no_fairness :
    let s := run .gen1 .poll .q0
    after (step { s with env := { s.env with rest := [.hostRead 0x004 4] } })
      (fun t => t.mpc == some (.q0) && t.env.agenda == [] && t.env.rest == [.hostRead 0x004 4])
      = true := by decide

/-- R104, R211: a wait for a DMA command lets the channel in flight move, by the turns listed for the
wait or else by those that repeat. -/
theorem test_wait_for_dma :
    after (step (facing .hostWait { waiting true with
        env := { (waiting true).env with rest := [.seq, .dmaMove .tx 0] } }))
      (fun t => t.env.agenda == [.seq, .dmaMove .tx 0, .hostWait]) = true
    ∧ after (step (facing .hostWait { waiting true with
        env := { (waiting true).env with between := [[.dmaMove .tx 1, .hostRead 0x004 4, .seq]] } }))
      (fun t => t.env.agenda == [.dmaMove .tx 1, .seq, .hostWait]) = true
    ∧ after (step (facing .hostWait (idle .gen1))) (fun t => t.env.agenda == []) = true := by decide

/-- V-X-4. -/
theorem test_clear_lost :
    after (step { facing (.hostWrite 0x004 4 0x10) (idle .gen2) with
      status := ⟨.fatal, true, true, .fatal, .freqAboveClock⟩ }) (fun t => statusOf t == 0x0000290C) = true := by
  decide

/-- Section 3: check order, NOCHAN before ALIGN. -/
theorem test_nochan_before_align :
    after (exec (.dmaRead 32) { idle .gen3 with
      regs := { (idle .gen3).regs with bind := 0x28, rxaddr := 0x20000002 } }) (fun t =>
        statusOf t == 0x00000709) = true := by decide

/-! ## Witnesses

A witness is named after its statement, or its docstring names the statements it is for. -/

/-- Every hypothesis `At s i l` of a statement is met by `run g i l`: GetConfigReadsTheFields,
WidthChangeSteps, DrainDiscardsWhileReceiveReady, BlockingPreamble, BlockingPositionSteps,
FinishWaitsThenClears, and the statements below that have such a hypothesis. -/
theorem witness_at (g : Gen) (i : Instr) (l : Label) : At (run g i l) i l := by
  rw [at_iff]; exact ⟨.inl rfl, rfl, instr_accept _ _⟩

theorem witness_DecodeOfEncodeIsTheCommand : Instr.wf (.blkWrite 63) ∧ Instr.wf (.setWidth 0) := by
  decide

theorem witness_DecodableWordIsTheCommandsWord :
    decode 0x00003F10#32 = .ok (.blkWrite 63) ∧ decode 0x00000044#32 = .ok (.dmaen 0 0) := by decide

theorem witness_StepRunsTheDecodedCommand :
    (facing (.hostWrite 0x000 4 0x812) (idle .gen2)).ignoresWord 0x812 = false
    ∧ decode 0x812#32 = .ok (.blkXfer 8)
    ∧ (facing (.hostWrite 0x000 4 0x30) (waiting false)).ignoresWord 0x30 = false
    ∧ (facing .seq (run .gen2 .poll .q0)).running = some .poll
    ∧ (facing .seq (idle .gen2)).running = none := by decide

/-- Every command is ready somewhere: AcceptanceLatchesAndStarts, DeinitReleasesTheInstance,
WidthChangeSequence, SetWidthToCurrentWidthHasNoSideEffect, PollReportsTheFirstError,
AbortHaltsUnfinishedChannels, FlushAndFieldCommands. -/
theorem witness_ready :
    Ready (fresh .gen1) .init ∧ Ready (waiting false) .abort
    ∧ (∀ i ∈ [Instr.deinit, .setConfig, .getConfig, .setWidth 8, .setWidth 16, .flush, .blkWrite 8,
        .blkRead 16, .blkXfer 8, .blkXferIp 16, .dmaWrite 8, .dmaRead 16, .dmaXfer 8, .dmaXferIp 16,
        .enSet, .enClr, .drain, .poll, .dmaen 1 0, .finish], Ready (idle .gen1) i)
    ∧ (∀ i ∈ [Instr.setWidth 4, .blkWrite 16], Ready (idle .gen2) i)
    ∧ (∀ i ∈ [Instr.setWidth 4, .setWidth 32, .blkWrite 32, .dmaRead 32], Ready (idle .gen3) i) := by
  decide

/-- One input for each clause, the channel and address clauses with every earlier check passed. -/
theorem witness_RejectionRecordsTheFirstFailingCheck :
    (idle .gen2).status.fsm ≠ .uninit
    ∧ legalWidth (params .gen2) 17 = false ∧ legalWidth (params .gen2) 3 = false
    ∧ legalWidth (params .gen1) 12 = false ∧ legalWidth (params .gen3) 33 = false
    ∧ checks (.dmaXfer 8) { idle .gen2 with regs := { (idle .gen2).regs with bind := 0x18 } }
      = some .illegal
    ∧ checks (.dmaRead 8) { idle .gen2 with regs := { (idle .gen2).regs with bind := 0x28 } }
      = some .nochan
    ∧ checks (.dmaWrite 8) { idle .gen2 with regs := { (idle .gen2).regs with bind := 0x30 } }
      = some .nochan
    ∧ checks (.blkWrite 16) { idle .gen2 with regs := { (idle .gen2).regs with txaddr := 0x20000001 } }
      = some .align
    ∧ checks (.blkWrite 16)
        { idle .gen2 with regs := { (idle .gen2).regs with txaddr := 0x20000001, txlen := 0 } } = none
    ∧ (idle .gen2).running ≠ some .init ∧ (idle .gen2).ignores .init = false := by decide

theorem witness_UndecodableWordIsRejected :
    (facing (.hostWrite 0x000 4 0x46) (idle .gen2)).ignoresWord 0x46 = false
    ∧ decode 0x46#32 = .error .reservedOpcode ∧ decode 0x4005#32 = .error .reservedBits := by decide

theorem witness_IgnoredCommandSetsLost :
    (run .gen2 .poll .q0).status.fsm = .busy ∧ (waiting false).status.fsm = .waitDma
    ∧ (0x00010030 : Word) ≠ 0x00000030
    ∧ (facing (.hostWrite 0x000 4 0x30) (waiting false)).env.agenda = [.hostWrite 0x000 4 0x30] := by
  decide

/-- `F` = `K` is the last request taken: InitConstructsTheInstance, SetConfigWritesModeThenDivisor,
ConfigurationRoundTrip (with `paramsOk_gen1`, which is of the same shape). -/
theorem witness_takenFrequency :
    Ready { fresh .gen3 with regs := { (fresh .gen3).regs with freq := 8000000 } } .init
    ∧ (fresh .gen3).env.nextClock = 8000000 ∧ computeBR 8000000 8000000 = .ok .d2
    ∧ Ready { idle .gen3 with regs := { (idle .gen3).regs with freq := 4000000 } } .setConfig
    ∧ computeBR 8000000 4000000 = .ok .d2 ∧ 4000000 * divisorNat .d2 = 8000000 := by decide

/-- `F` = 0, and `F` one above `K`. -/
theorem witness_OverRequestHaltsTheBlock :
    Ready { fresh .gen2 with regs := { (fresh .gen2).regs with freq := 0 } } .init
    ∧ Ready { fresh .gen2 with regs := { (fresh .gen2).regs with freq := 8000001 } } .init
    ∧ (fresh .gen2).env.nextClock.toNat < (8000001 : Word).toNat
    ∧ (idle .gen2).regs.kclk.toNat < (8000001 : Word).toNat := by decide

/-- The vectors of section 4 at the edges of the ranges. -/
theorem witness_DivisorOfEveryRatio :
    computeBR 8000000 8000000 = .ok .d2 ∧ computeBR 8000000 3000000 = .ok .d2
    ∧ computeBR 5000000 1000000 = .ok .d4 ∧ computeBR 6000000 1000000 = .ok .d8
    ∧ computeBR 11000000 1000000 = .ok .d8 ∧ computeBR 12000000 1000000 = .ok .d16
    ∧ computeBR 23000000 1000000 = .ok .d16 ∧ computeBR 24000000 1000000 = .ok .d32
    ∧ computeBR 39000000 1000000 = .ok .d32 ∧ computeBR 40000000 1000000 = .ok .d64
    ∧ computeBR 95000000 1000000 = .ok .d64 ∧ computeBR 96000000 1000000 = .ok .d128
    ∧ computeBR 191000000 1000000 = .ok .d128 ∧ computeBR 192000000 1000000 = .ok .d256
    ∧ computeBR 8000000 0 = .error .freqZero ∧ computeBR 8000000 8000001 = .error .freqAboveClock := by
  decide

/-- AchievedFrequencyIsMonotone (the requests of S1), AchievedFrequencyBound (R127's example and the
ratio 255). -/
theorem witness_achievedFrequency :
    computeBR 8000000 2500000 = .ok .d4 ∧ computeBR 8000000 2900000 = .ok .d2
    ∧ computeFrequency 8000000 .d4 = 2000000 ∧ computeFrequency 8000000 .d2 = 4000000
    ∧ computeFrequency 5000000 .d4 = 1250000
    ∧ (255000000 / 1000000 = 255 ∧ computeBR 255000000 1000000 = .ok .d256) := by decide

theorem witness_LegalWidthsAndSizes :
    legalWidth (params .gen1) 8 = true ∧ legalWidth (params .gen1) 16 = true
    ∧ legalWidth (params .gen2) 4 = true ∧ legalWidth (params .gen2) 16 = true
    ∧ legalWidth (params .gen3) 4 = true ∧ legalWidth (params .gen3) 32 = true
    ∧ [4, 8, 9, 16, 17, 32].map szOf = [1, 1, 2, 2, 4, 4] := by decide

theorem witness_WidthChangeSequence :
    (Ready (idle .gen1) (.setWidth 16) ∧ 16 ≠ (idle .gen1).curWidth)
    ∧ (let s := answering [sample false false false false false false false true] [] (idle .gen3)
      Ready s (.setWidth 32) ∧ 32 ≠ s.curWidth ∧ s.env.nextSample.tc = true) := by decide

/-- The callers of the width change, the drain and `FinishDma`, and the guards of their steps:
WidthChangeSteps, DrainDiscardsWhileReceiveReady, BlockingPreamble, FinishWaitsThenClears; see
`witness_at`. -/
theorem witness_procedureCallers :
    isBlocking (.blkXfer 8) = true ∧ isDma (.dmaWrite 8) = true ∧ usesRxChannel (.dmaRead 8) = true
    ∧ (run .gen1 (.blkWrite 16) (.blk (.b2 .w0))).latch.n ≠ (run .gen1 (.blkWrite 16) .f0).curWidth
    ∧ (run .gen1 (.blkWrite 8) (.blk (.b2 .w0))).latch.n = (run .gen1 (.blkWrite 8) .f0).curWidth
    ∧ (run .gen1 .drain (.dn0 .dr0)).params.gen ≠ .gen3
    ∧ (run .gen3 .drain (.dn0 .dr0)).params.gen = .gen3 := by decide

/-- A sample for each clause of the polls, and both guards of T2. -/
theorem witness_BlockingPollChecksErrorsFirst :
    (let s := answering [sample true true true true true true false false] []
      (run .gen2 (.blkRead 8) (.blk .t0))
    At s (.blkRead 8) (.blk .t0) ∧ s.coming.ovr = true)
    ∧ errclass (sample false true true true true true false false) = .framing
    ∧ errclass (sample false false true true true true false false) = .modeFault
    ∧ errclass (sample false false false true true true false false) = .crc
    ∧ errclass (sample false false false false false false false false) = .none
    ∧ ¬((run .gen2 (.blkRead 8) (.blk .t2)).params.gen = .gen3)
    ∧ (run .gen3 (.blkRead 8) (.blk .t2)).params.startEveryWord = true := by decide

/-- Positions on both sides of each length. -/
theorem witness_BlockingSourcesAndSinks :
    (1 : Word).toNat < (idle .gen2).regs.txlen.toNat
    ∧ ¬(2 : Word).toNat < (idle .gen2).regs.txlen.toNat := by decide

/-- Two positions, four samples, two received words: BlockingLoopCompletes,
BlockingReadFillsTheBuffer. -/
theorem witness_blockingLoop :
    let s := answering [bothReady, bothReady, bothReady, bothReady] [0xA5, 0x5A]
      (run .gen2 (.blkRead 8) (.blk .l0))
    At s (.blkRead 8) (.blk .l0) ∧ s.regs.xcount = 0
    ∧ 2 * positions (.blkRead 8) s.regs ≤ s.env.samples.length
    ∧ (∀ x ∈ s.env.samples, errclass x = .none ∧ x.txrdy = true ∧ x.rxrdy = true)
    ∧ s.mem.wf ∧ s.latch.sz ≤ 4 ∧ s.regs.rxlen.toNat * s.latch.sz ≤ 2 ^ 32
    ∧ s.regs.rxlen.toNat ≤ s.env.reads.length := by decide

theorem witness_BlockingWriteSendsTheBuffer :
    let s := answering [bothReady, bothReady, bothReady, bothReady] []
      (run .gen2 (.blkWrite 8) (.blk .l0))
    At s (.blkWrite 8) (.blk .l0) ∧ 2 * s.regs.txlen.toNat ≤ s.env.samples.length
    ∧ ∀ x ∈ s.env.samples, errclass x = .none ∧ x.txrdy = true ∧ x.rxrdy = true := by decide

theorem witness_BlockingEndsOnlyInIdle :
    (run .gen2 (.blkRead 8) (.blk .fin)).running = some (.blkRead 8)
    ∧ after (exec (.blkRead 8) (run .gen2 (.blkRead 8) (.blk .fin))) (fun t => t.mpc == none) = true := by
  decide

/-- Equal lengths, unequal lengths, zero length. -/
theorem witness_DmaChecksLengthsFirst :
    (idle .gen2).regs.rxlen = (idle .gen2).regs.txlen ∧ (2 : Word) ≠ 3 ∧ (2 : Word) ≠ 0 := by decide

theorem witness_DmaStartSequence :
    (let s := answering [sample false false false false true false false false] []
      (run .gen2 (.dmaXfer 8) (.dma .m2))
    At s (.dmaXfer 8) (.dma .m2) ∧ s.env.nextSample.rxrdy = false)
    ∧ At (run .gen2 (.dmaXfer 8) (.dma (.m1 .w0))) (.dmaXfer 8) (.dma (.m1 .w0))
    ∧ (run .gen2 (.dmaXfer 8) (.dma (.m1 .w0))).latch.n = (run .gen2 (.dmaXfer 8) .f0).curWidth := by
  decide

/-- The join waiting, and the join holding. -/
theorem witness_JoinWaitsForEveryChannel :
    At (waiting true) (.dmaXfer 8) (.dma .m11) ∧ joinHolds (waiting true).join = false
    ∧ joinHolds ⟨true, true, true, true⟩ = true ∧ joinHolds ⟨true, false, true, false⟩ = true := by
  decide

theorem witness_DmaReportsNoPeripheralError :
    after (exec (.dmaXfer 8) (run .gen2 (.dmaXfer 8) (.dma .m13))) (fun t => t.mpc == none) = true := by
  decide

/-- A channel that has moved both its elements, and the last element still to move:
CompletionSetsTheLatchOnce, DmaMovesElements. -/
theorem witness_dmaTurns :
    (⟨⟨.m2p, 0, .addr 0, 2, 1, 1, .default⟩, [1, 0]⟩ : Flight).moved.length
      = Desc.moves ⟨.m2p, 0, .addr 0, 2, 1, 1, .default⟩
    ∧ Desc.moves ⟨.m2p, 0, .const 0, 2, 1, 1, .default⟩ = 0
    ∧ (waiting false).flight .tx = some ⟨⟨.m2p, 0x4000300C, .addr 0x20000000, 2, 1, 1, .default⟩, []⟩
    ∧ 1 < (2 : Word).toNat ∧ (1 ∉ ([0] : List Nat)) ∧ (waiting true).rxch = none
    ∧ (waiting false).join.txsub = true := by decide

/-- A move for each reason to change nothing: moved already, beyond the count, idle, constant. -/
theorem witness_DmaMovesElements_ignored :
    (0 ∈ ([0] : List Nat)) ∧ (2 : Word).toNat ≤ 2 ∧ (facing (.dmaMove .rx 0) (waiting true)).rxch = none
    ∧ (facing (.dmaMove .rx 0) (waiting true)).env.agenda = [.dmaMove .rx 0]
    ∧ (⟨.m2p, 0, .const 0, 2, 1, 1, .default⟩ : Desc).mem = .const 0
    ∧ after (step (facing (.dmaMove .rx 2) (waiting false))) (fun t => t.journal == []) = true := by decide

/-- Offsets at the edges of the map: HostReadsWaitsAndMemoryAccesses, HostWritesTakeEffectByState,
NarrowOrUnalignedHostAccessIsRefused; for the next turn see `facing`. -/
theorem witness_hostOffsets :
    (∀ off ∈ [(0x000 : BitVec 12), 0x004, 0x010, 0x020, 0x024, 0x038, 0x03C, 0xFFC], off.toNat % 4 = 0)
    ∧ regAt 0x038 = some .ssample ∧ regAt 0x03C = none ∧ regAt 0xFFC = none
    ∧ (BitVec.toNat (0x002 : BitVec 12) % 4 ≠ 0) := by decide

theorem witness_HostReadsWaitsAndMemoryAccesses :
    (racing 0).status.done = true ∧ (waiting true).status.done = false
    ∧ ([] : List Stored).filter (·.own) = (racing 0).view.later.filter (·.own)
    ∧ ([] : List Stored).isSublist (racing 0).view.later = true
    ∧ (facing .hostWait (racing 0)).env.agenda = [.hostWait] := by decide

/-- StoreThenLoad, LittleEndianElement. -/
theorem witness_memory : Memory.wf [(0, 1), (0xFFFFFFFF, 2)] := by decide

/-- Each way a byte of memory can change. -/
theorem witness_MemoryChangesOnlyInStoredBytes :
    after (step (facing .seq { run .gen2 (.blkRead 8) (.blk .l4) with
        vars := { (idle .gen2).vars with rx := 5 } })) (fun t => t.mem.read 0x20000100 == 5) = true
    ∧ after (step (facing (.dmaMove .rx 1) (answering [] [7] (waiting false))))
        (fun t => t.mem.read 0x20000101 == 7) = true
    ∧ after (step (facing (.memWrite 0xFFFFFFFF 2 0x0102) (idle .gen2)))
        (fun t => t.mem.read 0xFFFFFFFF == 2 && t.mem.read 0 == 1) = true := by decide

/-- ResetStateIsLegal. -/
theorem paramsOk_gen1 : ParamsOk (params .gen1) where
  minLow := by decide
  minHigh := by decide
  maxLow := by decide
  maxHigh := by decide
  brEnc d e := by cases d <;> cases e <;> decide
  widthEnc m n hm hn := by
    have hm' : m = 8 ∨ m = 16 := by simpa [legalWidth, params, Config.defaults] using hm
    have hn' : n = 8 ∨ n = 16 := by simpa [legalWidth, params, Config.defaults] using hn
    rcases hm' with rfl | rfl <;> rcases hn' with rfl | rfl <;> decide

/-- A legal state in which no command runs: EveryStepKeepsTheStateLegal,
NothingButBadHostAccessesStops, StateTransitions, RunningCommandIsProtected. -/
theorem witness_inv_idle : Inv (idle .gen1) where
  params := paramsOk_gen1
  memory := by decide
  viewWf := by decide
  viewWhole := by decide
  mpcNone := by decide
  waiting := by decide
  owned l h := by cases h
  latched l i n h := by cases h
  notDone := by decide
  ended := by decide
  cause := by decide
  widthNone := by decide
  widthLegal := by decide
  joinTx := by decide
  joinRx := by decide
  flightTx h := by exact absurd rfl h
  flightRx h := by exact absurd rfl h
  ssample := by decide

/-- A legal state in which a command runs: the same statements. -/
theorem witness_inv_running : Inv (facing .seq (run .gen1 .poll .q0)) where
  params := paramsOk_gen1
  memory := by decide
  viewWf := by decide
  viewWhole := by decide
  mpcNone := by decide
  waiting := by decide
  owned l h := by cases h; exact ⟨.poll, rfl, rfl⟩
  latched l i n h hi hn := by cases hi; cases hn
  notDone := by decide
  ended := by decide
  cause := by decide
  widthNone := by decide
  widthLegal := by decide
  joinTx := by decide
  joinRx := by decide
  flightTx h := by exact absurd rfl h
  flightRx h := by exact absurd rfl h
  ssample := by decide

/-- That state steps, by a turn that is not reset: the same statements. -/
theorem witness_legalStep :
    after (step (facing .seq (run .gen1 .poll .q0))) (fun t => t.mpc == some .q1) = true
    ∧ (facing .seq (run .gen1 .poll .q0)).nextTurn ≠ .reset := by decide

/-- StateTransitions: both ways from WAIT_DMA to BUSY. -/
theorem witness_StateTransitions_waitDma :
    after (step (facing .seq { waiting true with join := ⟨true, true, true, true⟩ }))
      (fun t => t.status.fsm == .busy && t.mpc == some (.dma (.m12 .fd0))) = true
    ∧ after (step (facing (.hostWrite 0x000 4 0x30) (waiting false)))
      (fun t => t.status.fsm == .busy && t.latch.op == 0x30) = true := by decide

theorem witness_FatalIsLeftOnlyByReset :
    after (step { facing (.hostWrite 0x000 4 0xFF) (idle .gen2) with
      status := ⟨.fatal, true, false, .fatal, .freqZero⟩ }) (fun t => t.status.lost) = true := by decide

/-- Each output register changes, in the command that writes it. -/
theorem witness_OutputRegistersHaveOneWriter :
    after (exec (.blkRead 8) (run .gen2 (.blkRead 8) (.blk .l5))) (fun t => t.regs.xcount == 1) = true
    ∧ after (exec .deinit (run .gen2 .deinit (.deinit .di4)))
        (fun t => t.regs.kclk == 0 && t.curWidth == 0) = true
    ∧ after (exec (.setWidth 16) (run .gen2 (.setWidth 16) (.setWidth (.sw0 .w22))))
        (fun t => t.curWidth == 16) = true := by decide

/-- A command that changes the control image, and one that records nothing: OneEventPerStep,
ControlImageChangesOnlyByRecordedAccesses. -/
theorem witness_recordedAccesses :
    after (exec .enSet (run .gen1 .enSet .es0)) (fun t => t.ctl.en == 1) = true
    ∧ after (exec .flush (idle .gen1)) (fun t => t.journal == []) = true := by decide

end Sys2Proof.Tests
end

section
/-! SUPPORT. The default parameters (R6): their width codes and their soundness. -/

namespace Sys2Proof.Machine

/-- A code `n - 1` of `w` bits tells apart the widths from 1 to `2 ^ w`. -/
theorem ofNat_pred_inj {w m n : Nat} (hm : 1 ≤ m) (hm' : m ≤ 2 ^ w) (hn : 1 ≤ n) (hn' : n ≤ 2 ^ w)
    (h : BitVec.ofNat w (m - 1) = BitVec.ofNat w (n - 1)) : m = n := by
  have hcode : m - 1 = n - 1 := by
    simpa [Nat.mod_eq_of_lt (show m - 1 < 2 ^ w by omega),
      Nat.mod_eq_of_lt (show n - 1 < 2 ^ w by omega)] using congrArg BitVec.toNat h
  omega

/-- The default `BRENC` is undone by the lookup of R131, so it is injective. -/
theorem divisorOfCode_default (d : Divisor) :
    divisorOfCode .default (BrEnc.default.code d) = d := by
  cases d <;> rfl

theorem code_default_toNat (d : Divisor) :
    (BrEnc.default.code d).toNat = Nat.log2 (divisorNat d) - 1 := by
  cases d <;> simp [BrEnc.code, BrEnc.default, divisorNat, Nat.log2_def]

theorem legalWidth_defaults_gen2 (n : Nat) :
    legalWidth (Config.defaults .gen2) n = (decide (4 ≤ n) && decide (n ≤ 16)) := rfl

theorem widthFields_defaults_gen2 (n : Nat) : widthFields (Config.defaults .gen2) n
    = [.ds (BitVec.ofNat 4 (n - 1)), .fth (if n ≤ 8 then 1 else 0)] := by
  have hcode : (BitVec.ofNat 5 (n - 1)).setWidth 4 = BitVec.ofNat 4 (n - 1) :=
    BitVec.setWidth_ofNat_of_le (by decide) _
  rw [← hcode]
  rfl

theorem widthFields_defaults_gen3 (n : Nat) :
    widthFields (Config.defaults .gen3) n = [.dsize (BitVec.ofNat 5 (n - 1))] := rfl

/-- The default `WIDTHENC` tells apart the legal widths of every generation (R150, R152). -/
theorem widthFields_defaults_inj {g : Gen} {m n : Nat}
    (hm : legalWidth (Config.defaults g) m = true) (hn : legalWidth (Config.defaults g) n = true)
    (h : widthFields (Config.defaults g) m = widthFields (Config.defaults g) n) : m = n := by
  cases g with
  | gen1 =>
    have hne : widthFields (Config.defaults .gen1) 8 ≠ widthFields (Config.defaults .gen1) 16 := by
      decide
    simp only [legalWidth, Config.defaults, Bool.or_eq_true, beq_iff_eq] at hm hn
    rcases hm with rfl | rfl <;> rcases hn with rfl | rfl
    · rfl
    · exact absurd h hne
    · exact absurd h.symm hne
    · rfl
  | gen2 =>
    have hm : 4 ≤ m ∧ m ≤ 16 := by simpa [legalWidth_defaults_gen2] using hm
    have hn : 4 ≤ n ∧ n ≤ 16 := by simpa [legalWidth_defaults_gen2] using hn
    simp only [widthFields_defaults_gen2, List.cons.injEq, FieldSet.ds.injEq] at h
    exact ofNat_pred_inj (by omega) (by omega) (by omega) (by omega) h.1
  | gen3 =>
    have hm : 4 ≤ m ∧ m ≤ 32 := by simpa [legalWidth, Config.defaults] using hm
    have hn : 4 ≤ n ∧ n ≤ 32 := by simpa [legalWidth, Config.defaults] using hn
    simp only [widthFields_defaults_gen3, List.cons.injEq, FieldSet.dsize.injEq] at h
    exact ofNat_pred_inj (by omega) (by omega) (by omega) (by omega) h.1

theorem paramsOk_defaults (g : Gen) : ParamsOk (Config.defaults g) where
  minLow := Nat.le_refl 4
  minHigh := (by decide : 4 ≤ 8)
  maxLow := (by decide : 8 ≤ 16)
  maxHigh := Nat.le_refl 16
  brEnc d e h := (divisorOfCode_default d).symm.trans
    ((congrArg (divisorOfCode .default) h).trans (divisorOfCode_default e))
  widthEnc _ _ hm hn h := widthFields_defaults_inj hm hn h

/-- Settles O20: the defaults are sound and are the tables of R6, R42, R152 and R153. -/
theorem defaultParameters : Obligations.DefaultParameters := by
  unfold Obligations.DefaultParameters
  intro g d x n
  have hmode : modeFields (Config.defaults g) x = [.cpol (x.cfg.extractLsb' 0 1),
      .cpha (x.cfg.extractLsb' 1 1), .lsbf (x.cfg.extractLsb' 2 1)] := by
    simp [modeFields, Config.defaults, HostRegs.cpol, HostRegs.cpha, HostRegs.lsbf]
  refine ⟨paramsOk_defaults g, rfl, code_default_toNat d, hmode, rfl, rfl, fun _ hn => ?_,
    fun hn _ => ?_, fun _ _ => widthFields_defaults_gen3 n, rfl, rfl, rfl, rfl⟩
  · rw [widthFields_defaults_gen2, if_pos hn]
  · rw [widthFields_defaults_gen2, if_neg (by omega)]

end Sys2Proof.Machine
end

section
/-! SUPPORT. The polls of the blocking commands (R173 to R175, R179): a blocking command's program
is that of the engine, and a poll ends the command or goes on. -/

namespace Sys2Proof.Machine

/-- Every blocking command runs the blocking engine, with positions of its own. -/
theorem progOf_blk {i : Instr} (hi : isBlocking i = true) :
    ∃ b, ∀ l s, progOf i (.blk l) s = some (blkStep b l s) := by
  cases i with
  | blkWrite n => exact ⟨blkWriteSpec, fun _ _ => rfl⟩
  | blkRead n => exact ⟨blkReadSpec, fun _ _ => rfl⟩
  | blkXfer n => exact ⟨blkXferSpec, fun _ _ => rfl⟩
  | blkXferIp n => exact ⟨blkXferIpSpec, fun _ _ => rfl⟩
  | _ => cases hi

/-- The latched opcode is DEINIT's only where the latches hold DEINIT. -/
theorem op_ne_deinit {k : Latch} {i : Instr} (h : k.instr = some i) (hi : i ≠ .deinit) :
    k.op ≠ Instr.deinit.opcode := by
  intro hop
  rw [Latch.instr, hop] at h
  exact hi (Option.some.inj h).symm

/-- Any command but DEINIT completes in IDLE (R253). -/
theorem complete_eq_endedWith {s : State} {i : Instr} (h : s.latch.instr = some i)
    (hi : i ≠ .deinit) (c : ResultCode) : s.complete c = s.endedWith c .idle := by
  rw [State.complete, if_neg (op_ne_deinit h hi)]
  rfl

theorem pollFor_error {s : State} (h : errclass s.coming ≠ .none) (flag : Sample → Bool)
    (here ret : Label) :
    pollFor flag here ret s = s.statusSample.classify.complete (errclass s.coming).result :=
  if_pos h

theorem pollFor_clean {s : State} (h : errclass s.coming = .none) (flag : Sample → Bool)
    (here ret : Label) : pollFor flag here ret s =
      s.statusSample.classify.goto (if flag s.coming then ret else here) := if_neg (· h)

/-- Where T2 writes no start control, T3's poll is taken at its label. -/
theorem blkT2_poll {s : State}
    (h : ¬(s.params.gen = .gen3 ∧ (s.params.startEveryWord = true ∨ s.vars.i = 0))) :
    blkT2 s = blkT3 s := if_neg h

/-- Settles O27: at each of the three labels the step is `pollFor`, which ends the command on an
error class before it looks at the flag. -/
theorem blockingPollChecksErrorsFirst : Obligations.BlockingPollChecksErrorsFirst := by
  unfold Obligations.BlockingPollChecksErrorsFirst
  intro s i l again next ready hi hl hat
  obtain ⟨b, hb⟩ := progOf_blk hi
  obtain ⟨flag, hprog, rfl⟩ : ∃ flag : Sample → Bool,
      progOf i l s = some (pollFor flag again next s) ∧ ready = flag s.coming := by
    rcases hl with ⟨rfl, rfl, rfl, rfl⟩ | ⟨rfl | ⟨rfl, hguard⟩, rfl, rfl, rfl⟩
    · exact ⟨(·.txrdy), hb .t0 s, rfl⟩
    · exact ⟨(·.rxrdy), hb .t3 s, rfl⟩
    · exact ⟨(·.rxrdy), (hb .t2 s).trans (congrArg some (blkT2_poll hguard)), rfl⟩
  obtain ⟨-, -, hlatch⟩ := at_iff.1 hat
  have hne : i ≠ .deinit := by rintro rfl; cases hi
  have hstop (c : ErrClass) (hc : c ≠ .none) (he : errclass s.coming = c) :
      exec i s = .next (s.statusSample.classify.endedWith c.result .idle) := by
    subst he
    rw [exec_at hat hprog, pollFor_error hc,
      complete_eq_endedWith (s := s.statusSample.classify) hlatch hne]
  refine ⟨fun ho => hstop .overrun nofun ?_, fun ho hf => hstop .framing nofun ?_,
    fun ho hf hm => hstop .modeFault nofun ?_, fun ho hf hm hc => hstop .crc nofun ?_,
    fun ho hf hm hc => ?_⟩
  · simp [errclass, ho]
  · simp [errclass, ho, hf]
  · simp [errclass, ho, hf, hm]
  · simp [errclass, ho, hf, hm, hc]
  · have he : errclass s.coming = .none := by simp [errclass, ho, hf, hm, hc]
    rw [exec_at hat hprog, pollFor_clean he]
    rfl

end Sys2Proof.Machine
end

section
/-! SUPPORT. What a step of a command records in the journal and does to the control image, said
once (R11, R36, R45, R64): nothing, or one event. -/

namespace Sys2Proof.Machine

/-- The access, if any, of a step of command `i` from `s` to `t`. -/
inductive Access (i : Instr) (s t : State) : Prop where
  /-- An internal step. -/
  | silent (hj : t.journal = s.journal) (hc : t.ctl = s.ctl)
  | fieldWrite (fs : List FieldSet) (hj : t.journal = s.journal ++ [.event (.fw fs)])
      (hc : t.ctl = assignFields s.ctl fs)
  | clkEnableReset (hi : i = .init) (hj : t.journal = s.journal ++ [.event .cer])
      (hc : t.ctl = s.params.periphReset)
  | clkDisable (hi : i = .deinit) (hj : t.journal = s.journal ++ [.event .cd])
  /-- Any other primitive: the control image is as it was. -/
  | other (e : Event) (hj : t.journal = s.journal ++ [.event e]) (hc : t.ctl = s.ctl)

/-- At most one event. -/
theorem Access.journal {i : Instr} {s t : State} (h : Access i s t) :
    t.journal = s.journal ∨ ∃ e, t.journal = s.journal ++ [.event e] := by
  cases h with
  | silent hj _ => exact .inl hj
  | fieldWrite _ hj _ | clkEnableReset _ hj _ | clkDisable _ hj | other _ hj _ => exact .inr ⟨_, hj⟩

/-- Going on to another label is no access. -/
theorem Access.goto {i : Instr} {s t : State} (h : Access i s t) (l : Label) :
    Access i s (t.goto l) := by
  cases h with
  | silent hj hc => exact .silent hj hc
  | fieldWrite fs hj hc => exact .fieldWrite fs hj hc
  | clkEnableReset hi hj hc => exact .clkEnableReset hi hj hc
  | clkDisable hi hj => exact .clkDisable hi hj
  | other e hj hc => exact .other e hj hc

/-- A guarded line, and the line that runs in its place. -/
theorem Access.ite {i : Instr} {s t u : State} {c : Prop} [Decidable c] (ht : Access i s t)
    (hu : Access i s u) : Access i s (if c then t else u) := by
  split
  · exact ht
  · exact hu

/-! ## The shared procedures -/

section
variable {i : Instr} {s : State}

theorem widthStart_access (wrap : WidthLabel → Label) : Access i s (widthStart wrap s) := by
  unfold widthStart
  split <;> exact .fieldWrite _ rfl rfl

theorem setWordWidth_access {cont : State → State} (h : Access i s (cont s))
    (wrap : WidthLabel → Label) (ret : Label) (l : WidthLabel) :
    Access i s (setWordWidth wrap ret cont l s) := by
  cases l with
  | w0 => exact .ite h (widthStart_access wrap)
  | w31 => exact .other _ rfl rfl
  | _ => exact .fieldWrite _ rfl rfl

theorem drain_access {cont : State → State} (h : Access i s (cont s)) (wrap : DrainLabel → Label)
    (ret : Label) (l : DrainLabel) : Access i s (drain wrap ret cont l s) := by
  cases l with
  | dr0 => exact .ite h (.other _ rfl rfl)
  | dr1 => exact .other _ rfl rfl

theorem pollFor_access (flag : Sample → Bool) (here ret : Label) :
    Access i s (pollFor flag here ret s) := .ite (.other _ rfl rfl) (.other _ rfl rfl)

theorem finishDma_access (wrap : FinishLabel → Label) (ret : Label) (l : FinishLabel) :
    Access i s (finishDma wrap ret l s) := by
  cases l with
  | fd0 => exact .other _ rfl rfl
  | fd1 | fd2 => exact .fieldWrite _ rfl rfl

/-- The divisor search of R121 is internal. -/
theorem keepDivisor_frame (s : State) (l : Label) :
    (keepDivisor s l).journal = s.journal ∧ (keepDivisor s l).ctl = s.ctl := by
  unfold keepDivisor
  split <;> exact ⟨rfl, rfl⟩

/-! ## The micro-programs -/

theorem initStep_access (l : InitLabel) : Access .init s (initStep l s) := by
  have h3 (g : Nat) : Access .init s (initI3 g s) := by
    unfold initI3
    split <;> exact .fieldWrite _ rfl rfl
  cases l with
  | i0 => exact .clkEnableReset rfl rfl rfl
  | i1 =>
    obtain ⟨hj, hc⟩ := keepDivisor_frame s.clkFreq (.init .i2)
    exact .other _ hj hc
  | i2 => exact .ite (.other _ rfl rfl) (h3 0)
  | i3 g => exact h3 g
  | i4 | i5 | i6 | i7 => exact .fieldWrite _ rfl rfl
  | i8 => exact .silent rfl rfl

theorem deinitStep_access (l : DeinitLabel) : Access .deinit s (deinitStep l s) := by
  have h3 : Access .deinit s (deinitDi3 s) := .clkDisable rfl rfl
  have h2 : Access .deinit s (deinitDi2 s) := .ite (.other _ rfl rfl) h3
  have h1 : Access .deinit s (deinitDi1 s) := .ite (.other _ rfl rfl) h2
  cases l with
  | di0 => exact .ite (.other _ rfl rfl) h1
  | di1 => exact h1
  | di2 => exact h2
  | di3 => exact h3
  | di4 => exact .silent rfl rfl

theorem setConfigStep_access (l : SetConfigLabel) : Access i s (setConfigStep l s) := by
  cases l with
  | s0 =>
    obtain ⟨hj, hc⟩ := keepDivisor_frame s (.setConfig .s1)
    exact .silent hj hc
  | s1 | s2 => exact .fieldWrite _ rfl rfl
  | s3 => exact .silent rfl rfl

theorem getConfigStep_access (l : GetConfigLabel) : Access i s (getConfigStep l s) := by
  cases l with
  | g0 => exact .other _ rfl rfl
  | g1 => exact .silent rfl rfl

theorem setWidthStep_access (l : SetWidthLabel) : Access i s (setWidthStep l s) := by
  cases l with
  | sw0 w => exact setWordWidth_access (cont := (·.complete .ok)) (.silent rfl rfl) _ _ w
  | sw1 => exact .silent rfl rfl

theorem abortStep_access (l : AbortLabel) : Access i s (abortStep l s) := by
  have h2 : Access i s (abortA2 s) := .fieldWrite _ rfl rfl
  have h1 : Access i s (abortA1 s) := .ite (.other _ rfl rfl) h2
  cases l with
  | a0 => exact .ite (.other _ rfl rfl) h1
  | a1 => exact h1
  | a2 => exact h2
  | a3 => exact .fieldWrite _ rfl rfl
  | a4 => exact .silent rfl rfl

theorem dmaStep_access (d : DmaSpec) (l : DmaLabel) : Access i s (dmaStep d l s) := by
  have h6 : Access i s (dmaM6 d s) := .other _ rfl rfl
  have h5 : Access i s (dmaM5 d s) := .ite (.other _ rfl rfl) h6
  have h4 : Access i s (dmaM4 d s) := .ite (.fieldWrite _ rfl rfl) h5
  have h2 : Access i s (dmaM2 s) := .fieldWrite _ rfl rfl
  cases l with
  | m0 => exact .ite (.silent rfl rfl) (.ite (.silent rfl rfl) (.silent rfl rfl))
  | m1 w => exact setWordWidth_access h2 _ _ w
  | m2 => exact h2
  | m3 l => exact .ite (drain_access h4 _ _ l) h4
  | m4 => exact h4
  | m5 => exact h5
  | m6 => exact h6
  | m7 | m8 => exact .fieldWrite _ rfl rfl
  | m9 => exact .ite (.fieldWrite _ rfl rfl) (.silent rfl rfl)
  | m10 => exact .silent rfl rfl
  | m11 => exact .ite (.silent rfl rfl) (.silent rfl rfl)
  | m12 f => exact finishDma_access (.dma <| .m12 ·) (.dma .m13) f
  | m13 => exact .silent rfl rfl

/-- A blocking command, whose source and sink are each at most one access. -/
theorem blkStep_access {b : BlkSpec} (hsrc : Access i s (b.src s)) (hsink : Access i s (b.sink s))
    (l : BlkLabel) : Access i s (blkStep b l s) := by
  have h2 (w : WidthLabel) : Access i s (blkB2 b w s) := setWordWidth_access (.silent rfl rfl) _ _ w
  have h1 (d : DrainLabel) : Access i s (blkB1 b d s) := drain_access (h2 .w0) _ _ d
  have h3 : Access i s (blkT3 s) := pollFor_access _ _ _
  cases l with
  | b0 => exact .fieldWrite _ rfl rfl
  | b1 d => exact h1 d
  | b2 w => exact h2 w
  | l0 | l1 | l5 | fin => exact .silent rfl rfl
  | l2 => exact hsrc.goto _
  | t0 => exact pollFor_access _ _ _
  | t1 | t4 => exact .other _ rfl rfl
  | t2 => exact .ite (.fieldWrite _ rfl rfl) h3
  | t3 => exact h3
  | l4 => exact hsink.goto _

/-- Everything a step of a micro-program records and does to the control image. -/
theorem progOf_access {l : Label} {t : State} (h : progOf i l s = some t) : Access i s t := by
  have hmem (a : State → Word) : Access i s (srcMem a s) := .other _ rfl rfl
  have hzero : Access i s (srcZero s) := .silent rfl rfl
  have hsink : Access i s (sinkMem s) := .other _ rfl rfl
  have hdiscard : Access i s (sinkDiscard s) := .silent rfl rfl
  cases i <;> cases l <;> cases h
  case init l => exact initStep_access l
  case deinit l => exact deinitStep_access l
  case setConfig l => exact setConfigStep_access l
  case getConfig l => exact getConfigStep_access l
  case setWidth l => exact setWidthStep_access l
  case blkWrite l => exact blkStep_access (hmem (·.regs.txaddr)) hdiscard l
  case blkRead l => exact blkStep_access hzero hsink l
  case blkXfer l => exact blkStep_access (.ite (hmem _) hzero) (.ite hsink hdiscard) l
  case blkXferIp l => exact blkStep_access (hmem (·.regs.rxaddr)) hsink l
  case dmaWrite l | dmaRead l | dmaXfer l | dmaXferIp l => exact dmaStep_access _ l
  case abort l => exact abortStep_access l
  case drain d => exact drain_access (.silent rfl rfl) _ _ d
  case finish f => exact finishDma_access _ _ f
  case enSet.es0 | enClr.ec0 | dmaen.de0 => exact .fieldWrite _ rfl rfl
  case poll.q0 => exact .other _ rfl rfl
  all_goals exact .silent rfl rfl

end

/-- An attempt records nothing and leaves the control image. -/
theorem attempt_frame (s : State) (i : Instr) :
    (s.attempt i).journal = s.journal ∧ (s.attempt i).ctl = s.ctl := by
  rcases attempt_cases s i with ⟨-, e⟩ | ⟨c, -, -, e⟩ | ⟨-, -, e⟩ <;> rw [e] <;> exact ⟨rfl, rfl⟩

/-- Everything a command records and does to the control image. -/
theorem exec_access {i : Instr} {s t : State} (h : exec i s = .next t) : Access i s t := by
  rcases exec_cases h with ⟨l, -, hp⟩ | ⟨-, rfl⟩
  · exact progOf_access hp
  · obtain ⟨hj, hc⟩ := attempt_frame s i
    exact .silent hj hc

/-- Settles O59, by `exec_access` and, where the command is not running, `attempt_frame`. -/
theorem oneEventPerStep : Obligations.OneEventPerStep := by
  unfold Obligations.OneEventPerStep
  intro s t i h
  refine ⟨(exec_access h).journal, fun hr => ?_⟩
  rw [exec_attempt hr] at h
  cases h
  exact (attempt_frame s i).1

end Sys2Proof.Machine
end

section
/-! SUPPORT. What a step of a micro-program can do, said once: the primitives of R11 it is made of,
and how it goes on. The invariant, the transitions of `STATE` and the owners of the registers are
read off here. -/

namespace Sys2Proof.Machine

/-- The primitives and internal assignments of command `i`, taken one after another from `s`. They
leave `STATUS`, `mpc`, the latches, the operand registers and the DMA channels. -/
inductive Acts (i : Instr) (s : State) : State → Prop where
  | none : Acts i s s
  | fieldWrite {u : State} {fs : List FieldSet} (a : Acts i s u) : Acts i s (u.fieldWrite fs)
  /-- A primitive of which only the event is kept. -/
  | emit {u : State} {e : Event} (a : Acts i s u) : Acts i s (u.emit e)
  | statusSample {u : State} (a : Acts i s u) : Acts i s u.statusSample
  | dataRead {u : State} {sz : Nat} (a : Acts i s u) : Acts i s (u.dataRead sz)
  | dataReadRx {u : State} {sz : Nat} (a : Acts i s u) : Acts i s (u.dataReadRx sz)
  | memReadTx {u : State} {b : Word} {sz : Nat} (a : Acts i s u) : Acts i s (u.memReadTx b sz)
  | memWrite {u : State} {b : Word} {sz : Nat} {v : Word} (a : Acts i s u) :
      Acts i s (u.memWrite b sz v)
  /-- Loop variables other than the sample. -/
  | vars {u : State} {v : Vars} (a : Acts i s u) (hv : v.s = u.vars.s := by rfl) :
      Acts i s { u with vars := v }
  /-- INIT's I0. -/
  | clkEnableReset {u : State} {p : Pins} (a : Acts i s u) :
      Acts i s { u.clkEnableReset with pins := p }
  /-- INIT's I1. -/
  | clkFreq {u : State} (a : Acts i s u) (hi : i = .init) : Acts i s u.clkFreq
  | clkDisable {u : State} (a : Acts i s u) : Acts i s u.clkDisable
  | readConfig {u : State} (a : Acts i s u) (hi : i = .getConfig) : Acts i s u.readConfig
  /-- A blocking command's B0 and L5. -/
  | xcount {u : State} {v : Vars} {c : Word} (a : Acts i s u) (hi : isBlocking i = true)
      (hv : v.s = u.vars.s := by rfl) :
      Acts i s { u with vars := v, regs := { u.regs with xcount := c } }
  | setCurWidth {u : State} {n : Nat} (a : Acts i s u) (hn : i.width = some n) :
      Acts i s (u.setCurWidth u.latch.n)

/-- No transfer may be in flight at the label. -/
abbrev Grounded (l : Label) : Prop := mayFlyTx l = false ∧ mayFlyRx l = false

/-- The step at `l` goes on to `l'` of the same command, and is none of those that need a rule of
their own: the join's and INIT's I7. -/
structure Follows (l l' : Label) : Prop where
  owned    : ∀ i, ownsLabel i l' = ownsLabel i l := by intro _; rfl
  notJoin  : l' ≠ .dma .m11 := by nofun
  notLast  : l' ≠ .init .i8 := by nofun

/-- Command `i`, not DEINIT, may end at label `l`: INIT does so at its last label only, and no
command does where a transfer may be in flight. -/
structure MayEnd (i : Instr) (l : Label) : Prop where
  ground    : Grounded l
  notDeinit : i ≠ .deinit
  atLast    : i = .init → l = .init .i8

/-- Every step of the micro-program of `i` at label `l`, by how it goes on. -/
inductive MicroStep (i : Instr) (l : Label) (s : State) : State → Prop where
  | goes {u : State} (a : Acts i s u) (hg : Grounded l) {l' : Label} (hl : Follows l l') :
      MicroStep i l s (u.goto l')
  /-- From the submission to the join. -/
  | flies {u : State} (a : Acts i s u) (hj : l ≠ .dma .m11) {l' : Label} (hl : Follows l l')
      (htx : mayFlyTx l' = true) (hrx : mayFlyRx l' = true) : MicroStep i l s (u.goto l')
  | ends {u : State} {c : ResultCode} (a : Acts i s u) (hl : MayEnd i l) :
      MicroStep i l s (u.complete c)
  | fails {u : State} {c : FCause} (a : Acts i s u) (hg : Grounded l) (hc : c ≠ .none) :
      MicroStep i l s (u.raiseFatal c)
  /-- INIT's I7. -/
  | initWidth (hi : i = .init) (hl : l = .init .i7) :
      MicroStep i l s (((s.fieldWrite [.en 1]).setCurWidth 8).goto (.init .i8))
  /-- DEINIT's DI4. -/
  | deinits (hi : i = .deinit) (hl : l = .deinit .di4) : MicroStep i l s (deinitDi4 s)
  | submitsRx {d : Desc} (hg : Grounded l) (hl : Follows l (.dma .m6)) :
      MicroStep i l s ((s.dmaSubmit .rx d).goto (.dma .m6))
  | submitsTx {d : Desc} (hg : mayFlyTx l = false) (hl : Follows l (.dma .m7)) :
      MicroStep i l s ((s.dmaSubmit .tx d).goto (.dma .m7))
  /-- M10, also where M9 takes no step. -/
  | suspends (hi : isDma i = true) (hl : l = .dma .m9 ∨ l = .dma .m10) : MicroStep i l s (dmaM10 s)
  | joins (hl : l = .dma .m11) : MicroStep i l s (dmaM11 s)
  | haltsTx (hl : l = .abort .a0) : MicroStep i l s (abortA0 s)
  | haltsRx (hl : l = .abort .a1) : MicroStep i l s (abortA1 s)

/-- A guarded line, and the line that runs in its place. -/
theorem MicroStep.ite {i : Instr} {l : Label} {s t u : State} {c : Prop} [Decidable c]
    (ht : MicroStep i l s t) (hu : MicroStep i l s u) : MicroStep i l s (if c then t else u) := by
  split
  · exact ht
  · exact hu

theorem Acts.ite {i : Instr} {s t u : State} {c : Prop} [Decidable c] (ht : Acts i s t)
    (hu : Acts i s u) : Acts i s (if c then t else u) := by
  split
  · exact ht
  · exact hu

/-! ## The shared procedures -/

section
variable {i : Instr} {l : Label} {s : State}

/-- The width change, at a label of its caller. -/
theorem setWordWidth_micro {cont : State → State} (hcont : MicroStep i l s (cont s))
    (hg : Grounded l) {n : Nat} (hn : i.width = some n) {wrap : WidthLabel → Label}
    (hw : ∀ w, Follows l (wrap w)) {ret : Label} (hr : Follows l ret) (w : WidthLabel) :
    MicroStep i l s (setWordWidth wrap ret cont w s) := by
  have hwrite : Acts i s s.writeWidth := .fieldWrite .none
  have hfinish : MicroStep i l s (s.finishWidth.goto ret) :=
    .goes (.setCurWidth (.fieldWrite .none) hn) hg hr
  have hstart : MicroStep i l s (widthStart wrap s) := by
    unfold widthStart
    split <;> exact .goes (.fieldWrite .none) hg (hw _)
  cases w with
  | w0 => exact .ite hcont hstart
  | w11 | w21 | w33 => exact .goes hwrite hg (hw _)
  | w31 => exact .goes (.statusSample .none) hg (hw _)
  | w32 | w34 => exact .goes (.fieldWrite .none) hg (hw _)
  | w12 | w22 | w35 => exact hfinish

/-- The drain, at a label of its caller. -/
theorem drain_micro {cont : State → State} (hcont : MicroStep i l s (cont s)) (hg : Grounded l)
    {wrap : DrainLabel → Label} (hw : ∀ d, Follows l (wrap d)) {ret : Label} (hr : Follows l ret)
    (d : DrainLabel) : MicroStep i l s (drain wrap ret cont d s) := by
  cases d with
  | dr0 =>
    refine .ite hcont (.goes (.statusSample .none) hg ?_)
    split
    · exact hw _
    · exact hr
  | dr1 => exact .goes (.dataRead .none) hg (hw _)

theorem pollFor_micro (hl : MayEnd i l) {here ret : Label} (hh : Follows l here)
    (hr : Follows l ret) {flag : Sample → Bool} : MicroStep i l s (pollFor flag here ret s) := by
  have hsample : Acts i s s.statusSample.classify := .vars (.statusSample .none)
  refine .ite (.ends hsample hl) (.goes hsample hl.ground ?_)
  split
  · exact hr
  · exact hh

theorem finishDma_micro (hg : Grounded l) {wrap : FinishLabel → Label}
    (hw : ∀ f, Follows l (wrap f)) {ret : Label} (hr : Follows l ret) (f : FinishLabel) :
    MicroStep i l s (finishDma wrap ret f s) := by
  cases f with
  | fd0 => exact .goes (.statusSample .none) hg (hw _)
  | fd1 => exact .goes (.fieldWrite .none) hg (hw _)
  | fd2 => exact .goes (.fieldWrite .none) hg hr

theorem computeBR_error {k f : Word} {c : FCause} (h : computeBR k f = .error c) : c ≠ .none := by
  unfold computeBR at h
  split at h
  · cases h; nofun
  · split at h <;> cases h; nofun

/-- The divisor search after the primitives of the step. -/
theorem keepDivisor_micro {u : State} (a : Acts i s u) (hg : Grounded l) {next : Label}
    (hn : Follows l next) : MicroStep i l s (keepDivisor u next) := by
  unfold keepDivisor
  split
  · next c hc => exact .fails a hg (computeBR_error hc)
  · exact .goes (.vars a) hg hn

/-! ## The micro-programs -/

theorem initStep_micro (l : InitLabel) : MicroStep .init (.init l) s (initStep l s) := by
  have hg : Grounded (.init l) := ⟨rfl, rfl⟩
  have hl {l' : InitLabel} (h : l' ≠ .i8 := by nofun) : Follows (.init l) (.init l') :=
    { notLast := fun e => h (Label.init.inj e) }
  have h3 (g : Nat) : MicroStep .init (.init l) s (initI3 g s) := by
    unfold initI3
    split <;> exact .goes (.fieldWrite .none) hg hl
  cases l with
  | i0 => exact .goes (.clkEnableReset .none) hg hl
  | i1 => exact keepDivisor_micro (.clkFreq .none rfl) hg hl
  | i2 => exact .ite (.goes (.emit .none) hg hl) (h3 0)
  | i3 g => exact h3 g
  | i4 | i5 | i6 => exact .goes (.fieldWrite .none) hg hl
  | i7 => exact .initWidth rfl rfl
  | i8 => exact .ends .none ⟨hg, nofun, fun _ => rfl⟩

theorem deinitStep_micro (l : DeinitLabel) : MicroStep .deinit (.deinit l) s (deinitStep l s) := by
  have hgo {u : State} (a : Acts .deinit s u) {l' : DeinitLabel} :
      MicroStep .deinit (.deinit l) s (u.goto (.deinit l')) :=
    .goes a ⟨rfl, rfl⟩ {}
  have h3 : MicroStep .deinit (.deinit l) s (deinitDi3 s) := hgo (.clkDisable .none)
  have h2 : MicroStep .deinit (.deinit l) s (deinitDi2 s) := .ite (hgo (.emit .none)) h3
  have h1 : MicroStep .deinit (.deinit l) s (deinitDi1 s) := .ite (hgo (.emit .none)) h2
  cases l with
  | di0 => exact .ite (hgo (.emit .none)) h1
  | di1 => exact h1
  | di2 => exact h2
  | di3 => exact h3
  | di4 => exact .deinits rfl rfl

theorem setConfigStep_micro (l : SetConfigLabel) :
    MicroStep .setConfig (.setConfig l) s (setConfigStep l s) := by
  have hl {l' : SetConfigLabel} : Follows (.setConfig l) (.setConfig l') := {}
  cases l with
  | s0 => exact keepDivisor_micro .none ⟨rfl, rfl⟩ hl
  | s1 | s2 => exact .goes (.fieldWrite .none) ⟨rfl, rfl⟩ hl
  | s3 => exact .ends .none ⟨⟨rfl, rfl⟩, nofun, nofun⟩

theorem getConfigStep_micro (l : GetConfigLabel) :
    MicroStep .getConfig (.getConfig l) s (getConfigStep l s) := by
  cases l with
  | g0 => exact .goes (.readConfig .none rfl) ⟨rfl, rfl⟩ {}
  | g1 => exact .ends .none ⟨⟨rfl, rfl⟩, nofun, nofun⟩

theorem setWidthStep_micro (n : Nat) (l : SetWidthLabel) :
    MicroStep (.setWidth n) (.setWidth l) s (setWidthStep l s) := by
  have hl {l' : SetWidthLabel} : Follows (.setWidth l) (.setWidth l') := {}
  have hend : MicroStep (.setWidth n) (.setWidth l) s (s.complete .ok) :=
    .ends .none ⟨⟨rfl, rfl⟩, nofun, nofun⟩
  cases l with
  | sw0 w =>
    exact setWordWidth_micro (cont := (·.complete .ok)) hend ⟨rfl, rfl⟩ rfl (fun _ => hl) hl w
  | sw1 => exact hend

theorem abortStep_micro (l : AbortLabel) : MicroStep .abort (.abort l) s (abortStep l s) := by
  have hl {l' : AbortLabel} : Follows (.abort l) (.abort l') := {}
  cases l with
  | a0 => exact .haltsTx rfl
  | a1 => exact .haltsRx rfl
  | a2 | a3 => exact .goes (.fieldWrite .none) ⟨rfl, rfl⟩ hl
  | a4 => exact .ends .none ⟨⟨rfl, rfl⟩, nofun, nofun⟩

/-- A DMA command, whose width is the latched one. -/
theorem dmaStep_micro {n : Nat} (hn : i.width = some n) (hi : isDma i = true) (d : DmaSpec)
    (l : DmaLabel) : MicroStep i (.dma l) s (dmaStep d l s) := by
  have hl {l' : DmaLabel} (h : l' ≠ .m11 := by nofun) : Follows (.dma l) (.dma l') :=
    { notJoin := fun e => h (Label.dma.inj e) }
  have hend (hg : Grounded (.dma l)) : MayEnd i (.dma l) :=
    ⟨hg, (by rintro rfl; cases hi), (by rintro rfl; cases hi)⟩
  have h2 (hg : Grounded (.dma l)) : MicroStep i (.dma l) s (dmaM2 s) :=
    .goes (.fieldWrite .none) hg hl
  have h6 (hg : mayFlyTx (.dma l) = false) : MicroStep i (.dma l) s (dmaM6 d s) :=
    .submitsTx hg hl
  have h5 (hg : Grounded (.dma l)) : MicroStep i (.dma l) s (dmaM5 d s) :=
    .ite (.submitsRx hg hl) (h6 hg.1)
  have h4 (hg : Grounded (.dma l)) : MicroStep i (.dma l) s (dmaM4 d s) :=
    .ite (.goes (.fieldWrite .none) hg hl) (h5 hg)
  cases l with
  | m0 =>
    exact .ite (.fails .none ⟨rfl, rfl⟩ nofun)
      (.ite (.ends (.vars .none) (hend ⟨rfl, rfl⟩)) (.goes (.vars .none) ⟨rfl, rfl⟩ hl))
  | m1 w => exact setWordWidth_micro (h2 ⟨rfl, rfl⟩) ⟨rfl, rfl⟩ hn (fun _ => hl) hl w
  | m2 => exact h2 ⟨rfl, rfl⟩
  | m3 k =>
    exact .ite (drain_micro (h4 ⟨rfl, rfl⟩) ⟨rfl, rfl⟩ (fun _ => hl) hl k) (h4 ⟨rfl, rfl⟩)
  | m4 => exact h4 ⟨rfl, rfl⟩
  | m5 => exact h5 ⟨rfl, rfl⟩
  | m6 => exact h6 rfl
  | m7 | m8 => exact .flies (.fieldWrite .none) (by nofun) hl rfl rfl
  | m9 => exact .ite (.flies (.fieldWrite .none) (by nofun) hl rfl rfl) (.suspends hi (.inl rfl))
  | m10 => exact .suspends hi (.inr rfl)
  | m11 => exact .joins rfl
  | m12 f => exact finishDma_micro ⟨rfl, rfl⟩ (fun _ => hl) hl f
  | m13 => exact .ends .none (hend ⟨rfl, rfl⟩)

/-- A blocking command, whose width is the latched one and whose source and sink are primitives. -/
theorem blkStep_micro {n : Nat} (hn : i.width = some n) (hi : isBlocking i = true) {b : BlkSpec}
    (hsrc : Acts i s (b.src s)) (hsink : Acts i s (b.sink s)) (l : BlkLabel) :
    MicroStep i (.blk l) s (blkStep b l s) := by
  have hl {l' : BlkLabel} : Follows (.blk l) (.blk l') := {}
  have hg : Grounded (.blk l) := ⟨rfl, rfl⟩
  have hend : MayEnd i (.blk l) := ⟨hg, (by rintro rfl; cases hi), (by rintro rfl; cases hi)⟩
  have h0 : MicroStep i (.blk l) s (blkL0 b s) := .goes (.vars .none) hg hl
  have h2 (w : WidthLabel) : MicroStep i (.blk l) s (blkB2 b w s) :=
    setWordWidth_micro h0 hg hn (fun _ => hl) hl w
  have h3 : MicroStep i (.blk l) s (blkT3 s) := pollFor_micro hend hl hl
  cases l with
  | b0 => exact .goes (.fieldWrite (.xcount .none hi)) hg hl
  | b1 d => exact drain_micro (h2 .w0) hg (fun _ => hl) hl d
  | b2 w => exact h2 w
  | l0 => exact h0
  | l1 => exact .goes .none hg hl
  | l2 => exact .goes hsrc hg hl
  | t0 => exact pollFor_micro hend hl hl
  | t1 => exact .goes (.emit .none) hg hl
  | t2 => exact .ite (.goes (.fieldWrite .none) hg hl) h3
  | t3 => exact h3
  | t4 => exact .goes (.dataReadRx .none) hg hl
  | l4 => exact .goes hsink hg hl
  | l5 => exact .goes (.xcount .none hi) hg hl
  | fin => exact .ends .none hend

/-- Every step of every micro-program is one of those. -/
theorem progOf_micro {t : State} (h : progOf i l s = some t) : MicroStep i l s t := by
  have hmem (a : State → Word) : Acts i s (srcMem a s) := .memReadTx .none
  have hzero : Acts i s (srcZero s) := .vars .none
  have hsink : Acts i s (sinkMem s) := .memWrite .none
  cases i <;> cases l <;> cases h
  case init l => exact initStep_micro l
  case deinit l => exact deinitStep_micro l
  case setConfig l => exact setConfigStep_micro l
  case getConfig l => exact getConfigStep_micro l
  case setWidth n l => exact setWidthStep_micro n l
  case blkWrite l => exact blkStep_micro rfl rfl (hmem (·.regs.txaddr)) .none l
  case blkRead l => exact blkStep_micro rfl rfl hzero hsink l
  case blkXfer l => exact blkStep_micro rfl rfl (.ite (hmem _) hzero) (.ite hsink .none) l
  case blkXferIp l => exact blkStep_micro rfl rfl (hmem (·.regs.rxaddr)) hsink l
  case dmaWrite l | dmaRead l | dmaXfer l | dmaXferIp l => exact dmaStep_micro rfl rfl _ l
  case abort l => exact abortStep_micro l
  case drain.dn0 d =>
    have hend : MicroStep .drain (.dn0 d) s (s.complete .ok) :=
      .ends .none ⟨⟨rfl, rfl⟩, nofun, nofun⟩
    exact drain_micro (cont := (·.complete .ok)) hend ⟨rfl, rfl⟩ (fun _ => {}) {} d
  case finish.fn0 f =>
    exact finishDma_micro ⟨rfl, rfl⟩ (fun _ => {}) {} f
  case poll.q0 =>
    exact .goes (.vars (.statusSample .none)) ⟨rfl, rfl⟩ {}
  case enSet.es0 | enClr.ec0 | dmaen.de0 =>
    exact .goes (.fieldWrite .none) ⟨rfl, rfl⟩ {}
  all_goals exact .ends .none ⟨⟨rfl, rfl⟩, nofun, nofun⟩

end

end Sys2Proof.Machine
end

section
/-! SUPPORT. The legal states are closed under every step (R23, R25, R32 to R35, R47, R75, R211):
each operation keeps `Inv`, so each way a step goes on does, so each turn does. -/

namespace Sys2Proof.Machine

/-- What the opcode map says of the command it names (R93). -/
theorem instrOf_some {op : BitVec 8} {n : Nat} {t r : BitVec 1} {i : Instr}
    (h : instrOf op n t r = some i) : op = i.opcode ∧ ∀ m, i.width = some m → n = m := by
  unfold instrOf at h
  split at h <;> cases h <;> exact ⟨rfl, fun m hm => by cases hm <;> rfl⟩

theorem op_of_instr {k : Latch} {i : Instr} (h : k.instr = some i) : k.op = i.opcode :=
  (instrOf_some h).1

theorem n_of_instr {k : Latch} {i : Instr} (h : k.instr = some i) {n : Nat}
    (hn : i.width = some n) : k.n = n := (instrOf_some h).2 n hn

theorem sz_accept (k : Latch) {i : Instr} {n : Nat} (h : i.width = some n) :
    (k.accept i).sz = szOf n := by
  cases i <;> cases h <;> rfl

theorem ownsLabel_firstLabel (i : Instr) : ownsLabel i (firstLabel i) = true := by
  cases i <;> rfl

/-- The states in which commands are accepted (R93). -/
theorem acceptedIn_cases (i : Instr) : (i = .init ∧ acceptedIn i = .uninit)
    ∨ (i = .abort ∧ acceptedIn i = .waitDma)
    ∨ (i ≠ .init ∧ i ≠ .abort ∧ acceptedIn i = .idle) := by
  cases i <;> simp [acceptedIn]

/-- The width INIT programs is legal for every generation (R150). -/
theorem legalWidth_eight {p : Params} (h : ParamsOk p) : legalWidth p 8 = true := by
  have h1 := h.minHigh
  have h2 := h.maxLow
  unfold legalWidth
  split <;> simp [h1, h2]

section
variable {s u t : State} {i : Instr} {l l' : Label}

/-! ## What a label says of a legal state -/

/-- SEQ is in BUSY at every label but the join's. -/
theorem Inv.busy (hs : Inv s) (hl : s.mpc = some l) (hj : l ≠ .dma .m11) :
    s.status.fsm = .busy := by
  have hrun : ¬(s.status.fsm ≠ .busy ∧ s.status.fsm ≠ .waitDma) := fun h => by
    simp [hs.mpcNone.2 h] at hl
  have hwait : s.status.fsm ≠ .waitDma := fun h => by
    rw [hs.waiting.1 h] at hl
    exact hj (Option.some.inj hl).symm
  by_contra hb
  exact hrun ⟨hb, hwait⟩

/-- Where a label lets no transfer fly, none does. -/
theorem Inv.groundedTx (hs : Inv s) (hl : s.mpc = some l) (hg : mayFlyTx l = false) :
    s.txch = none := by
  by_contra hc
  obtain ⟨-, -, l', hl', hf⟩ := hs.flightTx hc
  cases hl.symm.trans hl'
  exact absurd (hg.symm.trans hf) nofun

theorem Inv.groundedRx (hs : Inv s) (hl : s.mpc = some l) (hg : mayFlyRx l = false) :
    s.rxch = none := by
  by_contra hc
  obtain ⟨-, -, l', hl', hf⟩ := hs.flightRx hc
  cases hl.symm.trans hl'
  exact absurd (hg.symm.trans hf) nofun

theorem Inv.grounded (hs : Inv s) (hl : s.mpc = some l) (hg : Grounded l) :
    s.txch = none ∧ s.rxch = none := ⟨hs.groundedTx hl hg.1, hs.groundedRx hl hg.2⟩

/-- A channel whose submission is not open has nothing in flight (R34, R211). -/
theorem Inv.landedTx (hs : Inv s) (h : (s.join.txsub && !s.join.txdone) = false) :
    s.txch = none := by
  by_contra hc
  obtain ⟨hsub, hdone, -⟩ := hs.flightTx hc
  simp [hsub, hdone] at h

theorem Inv.landedRx (hs : Inv s) (h : (s.join.rxsub && !s.join.rxdone) = false) :
    s.rxch = none := by
  by_contra hc
  obtain ⟨hsub, hdone, -⟩ := hs.flightRx hc
  simp [hsub, hdone] at h

/-- `Join()` holds where no submission is open (R208). -/
theorem joinHolds_iff (j : Join) : joinHolds j = true ↔
    (j.txsub && !j.txdone) = false ∧ (j.rxsub && !j.rxdone) = false := by
  obtain ⟨a, b, c, d⟩ := j
  revert a b c d
  decide

/-! ## The operations -/

/-- The primitives of a running command keep a state legal. -/
theorem Acts.inv (a : Acts i s u) (hs : Inv s) (hl : s.mpc = some l) (hi : s.latch.instr = some i) :
    Inv u ∧ u.mpc = some l ∧ u.latch.instr = some i := by
  induction a with
  | none => exact ⟨hs, hl, hi⟩
  | statusSample a ih =>
    obtain ⟨ih, hl, hi⟩ := ih
    exact ⟨{ ih with ssample := rfl }, hl, hi⟩
  | memWrite a ih =>
    obtain ⟨ih, hl, hi⟩ := ih
    obtain ⟨hv, hw⟩ := store_viewWhole ⟨ih.viewWf, ih.viewWhole⟩ _
    exact ⟨{ ih with memory := wf_store ih.memory _ _ _, viewWf := hv, viewWhole := hw }, hl, hi⟩
  | vars a hv ih =>
    obtain ⟨ih, hl, hi⟩ := ih
    exact ⟨{ ih with ssample := hv ▸ ih.ssample }, hl, hi⟩
  | xcount a hb hv ih =>
    obtain ⟨ih, hl, hi⟩ := ih
    exact ⟨{ ih with ssample := hv ▸ ih.ssample }, hl, hi⟩
  | @setCurWidth u n a hn ih =>
    obtain ⟨ih, hl, hi⟩ := ih
    have hrun : u.status.fsm ≠ .uninit := fun h => by
      simp [ih.mpcNone.2 (by simp [h])] at hl
    have hlegal : legalWidth u.params u.latch.n = true := by
      rw [n_of_instr hi hn]
      exact (ih.latched l i n hl hi hn).1
    exact ⟨{ ih with widthNone := fun h => absurd h hrun, widthLegal := fun _ => hlegal }, hl, hi⟩
  | _ =>
    rename_i ih
    obtain ⟨ih, hl, hi⟩ := ih
    exact ⟨{ ih with }, hl, hi⟩

/-- Going on in BUSY. -/
theorem goto_inv (hs : Inv s) (hl : s.mpc = some l) (hb : s.status.fsm = .busy)
    (hf : Follows l l') (htx : s.txch ≠ none → mayFlyTx l' = true)
    (hrx : s.rxch ≠ none → mayFlyRx l' = true) : Inv (s.goto l') :=
  { hs with
    mpcNone := by simp [hb]
    waiting := by simp [hb, hf.notJoin]
    owned := fun _ hk => by
      cases hk
      obtain ⟨i, hi, ho⟩ := hs.owned l hl
      exact ⟨i, hi, (hf.owned i).trans ho⟩
    latched := fun _ i n _ hi hn => hs.latched l i n hl hi hn
    widthLegal := fun h => by
      refine hs.widthLegal ?_
      rcases h with h | h | h | h
      · exact .inl h
      · exact .inr (.inl h)
      · exact .inr (.inr (.inl h))
      · exact absurd (Option.some.inj h) hf.notLast
    flightTx := fun h => by
      obtain ⟨hsub, hdone, -⟩ := hs.flightTx h
      exact ⟨hsub, hdone, l', rfl, htx h⟩
    flightRx := fun h => by
      obtain ⟨hsub, hdone, -⟩ := hs.flightRx h
      exact ⟨hsub, hdone, l', rfl, hrx h⟩ }

/-- Going on from a label where nothing is in flight. -/
theorem goto_inv_of_grounded (hs : Inv s) (hl : s.mpc = some l) (hg : Grounded l)
    (hf : Follows l l') : Inv (s.goto l') := by
  obtain ⟨htx, hrx⟩ := hs.grounded hl hg
  exact goto_inv hs hl (hs.busy hl (by rintro rfl; cases hg.1)) hf (absurd htx) (absurd hrx)

/-- The end of a command: SEQ stops in a state other than BUSY and WAIT_DMA, with `DONE` set and
nothing in flight. -/
theorem stopped_inv (hs : Inv s) (hch : s.txch = none ∧ s.rxch = none) {st : Status} {w : Nat}
    (hrun : st.fsm ≠ .busy ∧ st.fsm ≠ .waitDma) (hdone : st.done = true)
    (hcause : st.fcause = .none ↔ st.fsm ≠ .fatal) (hnone : st.fsm = .uninit → w = 0)
    (hlegal : st.fsm = .idle → legalWidth s.params w = true) :
    Inv { s with status := st, mpc := none, curWidth := w } :=
  { hs with
    mpcNone := by simp [hrun]
    waiting := by simp [hrun]
    owned := nofun
    latched := nofun
    notDone := fun h => by simp [hrun] at h
    ended := fun _ => hdone
    cause := hcause
    widthNone := hnone
    widthLegal := fun h => by
      rcases h with h | h | h | h
      · exact hlegal h
      · exact absurd h hrun.2
      · exact absurd h.1 hrun.1
      · cases h
    flightTx := fun h => absurd hch.1 h
    flightRx := fun h => absurd hch.2 h }

theorem complete_inv (hs : Inv s) (hl : s.mpc = some l) (hi : s.latch.instr = some i)
    (he : MayEnd i l) (c : ResultCode) : Inv (s.complete c) := by
  have hb : s.status.fsm = .busy := hs.busy hl (by rintro rfl; cases he.ground.1)
  have hlegal : legalWidth s.params s.curWidth = true := by
    refine hs.widthLegal (.inr (.inr ?_))
    by_cases hinit : i = .init
    · exact .inr (he.atLast hinit ▸ hl)
    · exact .inl ⟨hb, by simp [hi, hinit]⟩
  rw [complete_eq_endedWith hi he.notDeinit]
  exact stopped_inv hs (hs.grounded hl he.ground)
    (st := { s.status with result := c, done := true, fsm := .idle })
    ⟨nofun, nofun⟩ rfl (by simp [hs.cause, hb]) nofun fun _ => hlegal

theorem raiseFatal_inv (hs : Inv s) (hl : s.mpc = some l) (hg : Grounded l) {c : FCause}
    (hc : c ≠ .none) : Inv (s.raiseFatal c) :=
  stopped_inv hs (hs.grounded hl hg)
    (st := { s.status with fcause := c, result := .fatal, done := true, fsm := .fatal })
    ⟨nofun, nofun⟩ rfl (by simp [hc]) nofun nofun

theorem deinitDi4_inv (hs : Inv s) (hl : s.mpc = some (.deinit .di4)) : Inv (deinitDi4 s) := by
  have hb := hs.busy hl nofun
  obtain ⟨i, hi, ho⟩ := hs.owned _ hl
  have hop : s.latch.op = Instr.deinit.opcode := by
    rw [op_of_instr hi, beq_iff_eq.1 ho]
  have hstop := stopped_inv hs (hs.grounded hl ⟨rfl, rfl⟩) (w := 0)
    (st := { s.status with result := .ok, done := true, fsm := .uninit })
    ⟨nofun, nofun⟩ rfl (by simp [hs.cause, hb]) (fun _ => rfl) nofun
  have heq : deinitDi4 s = { s with
      status := { s.status with result := .ok, done := true, fsm := .uninit }, mpc := none
      curWidth := 0, regs := { s.regs with kclk := 0 }, pins := ⟨false, false, false⟩ } := by
    simp [deinitDi4, State.complete, State.setCurWidth, hop]
  rw [heq]
  exact { hstop with }

theorem initWidth_inv (hs : Inv s) (hl : s.mpc = some (.init .i7)) :
    Inv (((s.fieldWrite [.en 1]).setCurWidth 8).goto (.init .i8)) := by
  have hb := hs.busy hl nofun
  obtain ⟨htx, hrx⟩ := hs.grounded hl ⟨rfl, rfl⟩
  obtain ⟨i, hi, ho⟩ := hs.owned _ hl
  exact { hs with
    mpcNone := by simp [hb]
    waiting := by simp [hb]
    owned := fun _ hk => by cases hk; exact ⟨i, hi, ho⟩
    latched := fun _ i n _ hi hn => hs.latched _ i n hl hi hn
    widthNone := fun h => by simp [hb] at h
    widthLegal := fun _ => legalWidth_eight hs.params
    flightTx := absurd htx
    flightRx := absurd hrx }

theorem submitRx_inv (hs : Inv s) (hl : s.mpc = some l) (hg : Grounded l)
    (hf : Follows l (.dma .m6)) (d : Desc) : Inv ((s.dmaSubmit .rx d).goto (.dma .m6)) :=
  { goto_inv_of_grounded hs hl hg hf with
    joinRx := nofun
    flightRx := fun _ => ⟨rfl, rfl, _, rfl, rfl⟩ }

theorem submitTx_inv (hs : Inv s) (hl : s.mpc = some l) (hg : mayFlyTx l = false)
    (hf : Follows l (.dma .m7)) (d : Desc) : Inv ((s.dmaSubmit .tx d).goto (.dma .m7)) :=
  { goto_inv hs hl (hs.busy hl (by rintro rfl; cases hg)) hf (fun _ => rfl) (fun _ => rfl) with
    joinTx := nofun
    flightTx := fun _ => ⟨rfl, rfl, _, rfl, rfl⟩ }

/-- SEQ suspends at the join, with its transfers in flight. -/
theorem dmaM10_inv (hs : Inv s) {k : DmaLabel} (hl : s.mpc = some (.dma k)) (hj : k ≠ .m11) :
    Inv (dmaM10 s) := by
  have hb := hs.busy hl (by simpa using hj)
  obtain ⟨i, hi, ho⟩ := hs.owned _ hl
  have hinit : s.latch.instr ≠ some .init := by
    rw [hi]
    rintro ⟨⟩
    cases ho
  exact { hs with
    mpcNone := by simp [dmaM10]
    waiting := by simp [dmaM10]
    owned := fun _ hk => by cases hk; exact ⟨i, hi, ho⟩
    latched := fun _ i n _ hi hn => hs.latched _ i n hl hi hn
    notDone := fun _ => hs.notDone (.inl hb)
    ended := fun h => by simp [dmaM10] at h
    cause := by simp [dmaM10, hs.cause, hb]
    widthNone := fun h => by simp [dmaM10] at h
    widthLegal := fun _ => hs.widthLegal (.inr (.inr (.inl ⟨hb, hinit⟩)))
    flightTx := fun h => by
      obtain ⟨hsub, hdone, -⟩ := hs.flightTx h
      exact ⟨hsub, hdone, _, rfl, rfl⟩
    flightRx := fun h => by
      obtain ⟨hsub, hdone, -⟩ := hs.flightRx h
      exact ⟨hsub, hdone, _, rfl, rfl⟩ }

theorem dmaM11_inv (hs : Inv s) (hl : s.mpc = some (.dma .m11)) : Inv (dmaM11 s) := by
  unfold dmaM11
  split
  · next hjoin =>
    have hw := hs.waiting.2 hl
    obtain ⟨htx, hrx⟩ := (joinHolds_iff _).1 hjoin
    obtain ⟨i, hi, ho⟩ := hs.owned _ hl
    exact { hs with
      mpcNone := by simp
      waiting := by simp
      owned := fun _ hk => by cases hk; exact ⟨i, hi, ho⟩
      latched := fun _ i n _ hi hn => hs.latched _ i n hl hi hn
      notDone := fun _ => hs.notDone (.inr hw)
      ended := fun h => by simp at h
      cause := by simp [hs.cause, hw]
      widthNone := fun h => by simp at h
      widthLegal := fun _ => hs.widthLegal (.inr (.inl hw))
      flightTx := absurd (hs.landedTx htx)
      flightRx := absurd (hs.landedRx hrx) }
  · exact hs

/-- A1, whether it halts the receive channel or not. -/
theorem abortA1_inv (hs : Inv s) {k : AbortLabel} (hl : s.mpc = some (.abort k))
    (htx : s.txch = none) : Inv (abortA1 s) := by
  have hb := hs.busy hl nofun
  unfold abortA1
  split
  · have hhalt : Inv (s.dmaHalt .rx) := { hs with flightRx := nofun }
    exact goto_inv hhalt hl hb {} (absurd htx) nofun
  · next hland =>
    have hrx : s.rxch = none := hs.landedRx (Bool.eq_false_iff.2 hland)
    have hwrite : Inv (s.fieldWrite [.en 0]) := { hs with }
    exact goto_inv hwrite hl hb {} (absurd htx) (absurd hrx)

theorem abortA0_inv (hs : Inv s) (hl : s.mpc = some (.abort .a0)) : Inv (abortA0 s) := by
  unfold abortA0
  split
  · have hhalt : Inv (s.dmaHalt .tx) := { hs with flightTx := nofun }
    exact goto_inv hhalt hl (hs.busy hl nofun) {} nofun (fun _ => rfl)
  · next hland => exact abortA1_inv hs hl (hs.landedTx (Bool.eq_false_iff.2 hland))

/-- Every step of a micro-program keeps a state legal. -/
theorem MicroStep.inv (h : MicroStep i l s t) (hs : Inv s) (hat : At s i l) : Inv t := by
  obtain ⟨-, hl, hi⟩ := at_iff.1 hat
  cases h with
  | goes a hg hf =>
    obtain ⟨hu, hl, -⟩ := a.inv hs hl hi
    exact goto_inv_of_grounded hu hl hg hf
  | flies a hj hf htx hrx =>
    obtain ⟨hu, hl, -⟩ := a.inv hs hl hi
    exact goto_inv hu hl (hu.busy hl hj) hf (fun _ => htx) (fun _ => hrx)
  | ends a he =>
    obtain ⟨hu, hl, hi⟩ := a.inv hs hl hi
    exact complete_inv hu hl hi he _
  | fails a hg hc =>
    obtain ⟨hu, hl, -⟩ := a.inv hs hl hi
    exact raiseFatal_inv hu hl hg hc
  | initWidth _ e => exact initWidth_inv hs (e ▸ hl)
  | deinits _ e => exact deinitDi4_inv hs (e ▸ hl)
  | submitsRx hg hf => exact submitRx_inv hs hl hg hf _
  | submitsTx hg hf => exact submitTx_inv hs hl hg hf _
  | suspends _ e =>
    rcases e with rfl | rfl <;> exact dmaM10_inv hs hl nofun
  | joins e => exact dmaM11_inv hs (e ▸ hl)
  | haltsTx e => exact abortA0_inv hs (e ▸ hl)
  | haltsRx e =>
    subst e
    exact abortA1_inv hs hl (hs.groundedTx hl rfl)

/-! ## A command attempt -/

/-- Acceptance starts a command in a legal state. -/
theorem accept_inv (hs : Inv s) (hc : checks i s = none) : Inv (s.accept i) := by
  obtain ⟨hfsm, hwidth, -⟩ := checks_none hc
  have hcause : s.status.fcause = .none := hs.cause.2 fun h => by
    rcases acceptedIn_cases i with ⟨-, e⟩ | ⟨-, e⟩ | ⟨-, -, e⟩ <;> simp [hfsm, e] at h
  have habort {l : Label} (hl : s.mpc = some l) : i = .abort := by
    by_contra hne
    have hstop : s.mpc = none := hs.mpcNone.2 (by
      rcases acceptedIn_cases i with ⟨-, e⟩ | ⟨ha, -⟩ | ⟨-, -, e⟩
      · simp [hfsm, e]
      · exact absurd ha hne
      · simp [hfsm, e])
    simp [hl] at hstop
  exact { hs with
    mpcNone := by simp
    waiting := by cases i <;> simp [firstLabel]
    owned := fun _ hk => by cases hk; exact ⟨i, instr_accept _ _, ownsLabel_firstLabel i⟩
    latched := fun _ j n _ hj hn => by
      cases (instr_accept _ i).symm.trans hj
      exact ⟨by simpa [widthIllegal, hn] using hwidth, sz_accept _ hn⟩
    notDone := fun _ => rfl
    ended := fun h => by simp at h
    cause := by simp [hcause]
    widthNone := fun h => by simp at h
    widthLegal := fun h => by
      rcases acceptedIn_cases i with ⟨rfl, -⟩ | ⟨-, e⟩ | ⟨-, -, e⟩
      · simp [firstLabel] at h
      · exact hs.widthLegal (.inr (.inl (hfsm.trans e)))
      · exact hs.widthLegal (.inl (hfsm.trans e))
    joinTx := fun h => by
      by_cases ha : i = .abort
      · subst ha; exact hs.joinTx h
      · simp [Join.accept, ha] at h
    joinRx := fun h => by
      by_cases ha : i = .abort
      · subst ha; exact hs.joinRx h
      · simp [Join.accept, ha] at h
    flightTx := fun h => by
      obtain ⟨hsub, hdone, l, hl, -⟩ := hs.flightTx h
      cases habort hl
      exact ⟨hsub, hdone, _, rfl, rfl⟩
    flightRx := fun h => by
      obtain ⟨hsub, hdone, l, hl, -⟩ := hs.flightRx h
      cases habort hl
      exact ⟨hsub, hdone, _, rfl, rfl⟩ }

/-- A rejection, which R97 makes in UNINIT and IDLE only. -/
theorem reject_inv (hs : Inv s) (hf : s.status.fsm = .uninit ∨ s.status.fsm = .idle)
    (c : ResultCode) : Inv (s.reject c) :=
  { hs with
    notDone := fun h => by rcases hf with hf | hf <;> simp [hf] at h
    ended := fun _ => rfl }

/-- What a host write of `w` to `CMD` can do in a legal state (R95). -/
inductive CmdStep (s : State) (w : Word) : State → Prop where
  | ignored : CmdStep s w s.ignoreCmd
  | rejected {c : ResultCode} (hf : s.status.fsm = .uninit ∨ s.status.fsm = .idle) :
      CmdStep s w (s.reject c)
  | accepted {i : Instr} (hw : s.ignoresWord w = false) (hd : decode w = .ok i)
      (hc : checks i s = none) : CmdStep s w (s.accept i)

/-- In WAIT_DMA only ABORT's word is not ignored, and no check turns it away. -/
theorem abort_of_waitDma (hs : Inv s) (hf : s.status.fsm = .waitDma) {w : Word}
    (hw : s.ignoresWord w = false) : w = 0x30 ∧ decode w = .ok .abort ∧ Ready s .abort := by
  have hword : w = 0x30 := by simpa [State.ignoresWord, hf] using hw
  have hrun : s.running ≠ some .abort := fun h => by
    obtain ⟨-, -, hi⟩ := running_eq_some.1 h
    obtain ⟨i, hi', ho⟩ := hs.owned _ (hs.waiting.1 hf)
    cases hi.symm.trans hi'
    cases ho
  subst hword
  exact ⟨rfl, by decide, hrun, by simp [State.ignores, hf], by
    simp [checks, hf, acceptedIn, widthIllegal, Instr.width, isDma, channelMissing, usesRxChannel,
      bufferMisaligned]⟩

theorem attempt_stopped (hs : s.status.fsm = .uninit ∨ s.status.fsm = .idle) {w : Word}
    (hw : s.ignoresWord w = false) (hd : decode w = .ok i) (h : exec i s = .next t) :
    CmdStep s w t := by
  have hrun : s.running ≠ some i := by
    rw [Ne, running_eq_some]
    rcases hs with hs | hs <;> simp [hs]
  have hign : s.ignores i = false := by rcases hs with hs | hs <;> simp [State.ignores, hs]
  rw [exec_attempt hrun] at h
  cases h
  rcases attempt_cases s i with ⟨hi, -⟩ | ⟨c, -, -, e⟩ | ⟨-, hc, e⟩
  · simp [hign] at hi
  · rw [e]; exact .rejected hs
  · rw [e]; exact .accepted hw hd hc

theorem writeCmd_cases (hs : Inv s) {w : Word} (h : s.writeCmd exec w = .next t) :
    CmdStep s w t := by
  unfold State.writeCmd at h
  split at h
  · cases h; exact .ignored
  · next hw =>
    have hw : s.ignoresWord w = false := by simpa using hw
    by_cases hwait : s.status.fsm = .waitDma
    · obtain ⟨-, hd, hready⟩ := abort_of_waitDma hs hwait hw
      simp only [hd, exec_ready hready] at h
      cases h
      exact .accepted hw hd hready.2.2
    · have hstop : s.status.fsm = .uninit ∨ s.status.fsm = .idle := by
        cases hf : s.status.fsm <;> simp_all [State.ignoresWord]
      split at h
      · cases h; exact .rejected hstop
      · next hd => exact attempt_stopped hstop hw hd h

theorem CmdStep.inv {w : Word} (h : CmdStep s w t) (hs : Inv s) : Inv t := by
  cases h with
  | ignored => exact { hs with }
  | rejected hf => exact reject_inv hs hf _
  | accepted _ _ hc => exact accept_inv hs hc

/-! ## The turns -/

theorem seqTurn_cases (h : s.seqTurn exec = .next t) :
    t = s ∨ ∃ i l, At s i l ∧ MicroStep i l s t := by
  unfold State.seqTurn at h
  split at h
  · next i hrun =>
    rcases exec_cases h with ⟨l, hat, hp⟩ | ⟨hn, -⟩
    · exact .inr ⟨i, l, hat, progOf_micro hp⟩
    · exact absurd hrun hn
  · cases h; exact .inl rfl

/-- Each register stands at its own offset, and nowhere else (R21). -/
theorem offset_of_regAt {off : BitVec 12} {g : HostReg} (h : regAt off = some g) :
    g.offset = off := by
  unfold regAt at h
  split at h <;> cases h <;> rfl

/-- A host write that has a step is a write to `CMD`, or to another register; a reserved offset
takes it like a read-only register. -/
theorem hostWrite_cases {off : BitVec 12} {size : Nat} {v : Word}
    (h : s.hostWrite exec off size v = .next t) :
    (off = 0x000 ∧ size = 4 ∧ (s.record (.hostWrite off v)).writeCmd exec v = .next t)
      ∨ ∃ g, t = (s.record (.hostWrite off v)).writeReg g v := by
  unfold State.hostWrite at h
  split at h
  · next hok =>
    have hsize : size = 4 := by simp_all [accessOk]
    split at h
    · next hr => exact .inl ⟨(offset_of_regAt hr).symm, hsize, h⟩
    · next g _ _ => cases h; exact .inr ⟨g, rfl⟩
    · cases h; exact .inr ⟨.kclk, rfl⟩
  · cases h

theorem record_inv (hs : Inv s) (e : Entry) : Inv (s.record e) := { hs with }

theorem writeReg_inv (hs : Inv s) (g : HostReg) (v : Word) : Inv (s.writeReg g v) := by
  unfold State.writeReg
  (repeat' split) <;> exact { hs with }

theorem afterRead_inv (hs : Inv s) (off : BitVec 12) : Inv (s.afterRead off) := by
  unfold State.afterRead
  split
  · obtain ⟨hv, hw⟩ := synced_viewWhole hs.memory
    exact { hs with viewWf := hv, viewWhole := hw }
  · exact { hs with }

theorem store_inv (hs : Inv s) (w : Stored) : Inv (s.store w) := by
  obtain ⟨hv, hw⟩ := store_viewWhole ⟨hs.viewWf, hs.viewWhole⟩ w
  exact { hs with memory := wf_store hs.memory _ _ _, viewWf := hv, viewWhole := hw }

/-- A transfer in flight stays one as it moves its elements. -/
theorem setFlight_inv (hs : Inv s) {ch : Channel} {f g : Flight} (hf : s.flight ch = some f) :
    Inv (s.setFlight ch (some g)) := by
  have hbusy : s.flight ch ≠ none := by rw [hf]; nofun
  cases ch with
  | tx => exact { hs with flightTx := fun _ => hs.flightTx hbusy }
  | rx => exact { hs with flightRx := fun _ => hs.flightRx hbusy }

theorem dmaMove_inv (hs : Inv s) (ch : Channel) (k : Nat) : Inv (s.dmaMove ch k) := by
  unfold State.dmaMove
  split
  · exact hs
  · next f hf =>
    split
    · exact hs
    · split
      · have hmark : Inv (s.setFlight ch (some (f.mark k))) := setFlight_inv hs hf
        split
        · exact record_inv hmark _
        · exact { store_inv hmark _ with }
      · exact hs

theorem dmaDone_inv (hs : Inv s) (ch : Channel) : Inv (s.dmaDone ch) := by
  unfold State.dmaDone
  split
  · exact hs
  · split
    · cases ch with
      | tx => exact { hs with
          joinTx := fun h => by
            rcases Bool.or_eq_true_iff.1 h with h | h
            · exact hs.joinTx h
            · exact h
          flightTx := nofun }
      | rx => exact { hs with
          joinRx := fun h => by
            rcases Bool.or_eq_true_iff.1 h with h | h
            · exact hs.joinRx h
            · exact h
          flightRx := nofun }
    · exact hs

theorem pollDone_inv (hs : Inv s) : Inv s.pollDone := by
  unfold State.pollDone
  split
  · exact record_inv (afterRead_inv hs 0x004) _
  · exact { hs with }

/-- The state after reset, whatever the parameters. -/
theorem resetWith_inv {p : Params} (hp : ParamsOk p) : Inv (State.resetWith p) where
  params := hp
  memory := wf_nil
  viewWf := wf_nil
  viewWhole := rfl
  mpcNone := by simp [State.resetWith]
  waiting := by simp [State.resetWith]
  owned := nofun
  latched := nofun
  notDone := by simp [State.resetWith]
  ended := by simp [State.resetWith]
  cause := by simp [State.resetWith]
  widthNone _ := rfl
  widthLegal := by simp [State.resetWith]
  joinTx := nofun
  joinRx := nofun
  flightTx h := absurd rfl h
  flightRx h := absurd rfl h
  ssample := (by decide : (0 : Word) = ssampleWord noFlags)

/-- Every turn of every agent keeps a state legal. -/
theorem turn_inv (hs : Inv s) {k : Turn} (h : s.turn exec k = .next t) : Inv t := by
  cases k with
  | seq =>
    rcases seqTurn_cases h with rfl | ⟨i, l, hat, hm⟩
    · exact hs
    · exact hm.inv hs hat
  | hostWrite off size v =>
    have hrec := record_inv hs (.hostWrite off v)
    rcases hostWrite_cases h with ⟨-, -, hcmd⟩ | ⟨g, rfl⟩
    · exact (writeCmd_cases hrec hcmd).inv hrec
    · exact writeReg_inv hrec g v
  | hostRead off size =>
    simp only [State.turn, State.hostRead] at h
    split at h <;> cases h
    exact record_inv (afterRead_inv hs off) _
  | hostWait => cases h; exact pollDone_inv hs
  | memWrite a size v => cases h; exact record_inv (store_inv hs _) _
  | memRead a size => cases h; exact { hs with }
  | dmaMove ch n => cases h; exact dmaMove_inv hs ch n
  | dmaDone ch => cases h; exact dmaDone_inv hs ch
  | reset =>
    cases h
    obtain ⟨hv, hw⟩ := synced_viewWhole hs.memory
    exact { resetWith_inv hs.params with memory := hs.memory, viewWf := hv, viewWhole := hw }

theorem popTurn_inv (hs : Inv s) : Inv s.popTurn := { hs with }

end

/-- Settles O52: a step is a turn of one agent, and `turn_inv` goes through the agents. -/
theorem everyStepKeepsTheStateLegal : Obligations.EveryStepKeepsTheStateLegal := by
  unfold Obligations.EveryStepKeepsTheStateLegal
  intro s t hs h
  exact turn_inv (popTurn_inv hs) h

end Sys2Proof.Machine
end

section
/-! SUPPORT. What each step leaves unchanged: the latches, the operand registers, and the output
registers but for the command that owns them (R26, R31, R32, R35, R37, R47, R181); and the
transitions of `STATE` (R24). -/

namespace Sys2Proof.Machine

/-- The operand registers hold the same (R26). -/
structure SameOperands (x y : HostRegs) : Prop where
  cfg    : y.cfg = x.cfg
  freq   : y.freq = x.freq
  bind   : y.bind = x.bind
  txaddr : y.txaddr = x.txaddr
  rxaddr : y.rxaddr = x.rxaddr
  txlen  : y.txlen = x.txlen
  rxlen  : y.rxlen = x.rxlen

/-- What of the output registers a step of the running command `i` may change (R31, R32, R37). -/
structure OwnOutputs (i : Instr) (s t : State) : Prop where
  xcount : t.regs.xcount = s.regs.xcount ∨ isBlocking i = true
  kclk   : t.regs.kclk = s.regs.kclk ∨ i = .init ∨ i = .deinit
  width  : t.curWidth = s.curWidth ∨ i = .init ∨ i = .deinit
    ∨ ∃ n, i.width = some n ∧ t.curWidth = s.latch.n
  rdcfg  : (t.regs.rdcfg = s.regs.rdcfg ∧ t.regs.rdfreq = s.regs.rdfreq) ∨ i = .getConfig

/-- What a step keeps of BIND, the latches and the operands, by `STATE` (R26, R35, R47 (d)). -/
structure Protects (s t : State) : Prop where
  bind     : s.status.fsm ≠ .uninit → t.regs.bind = s.regs.bind
  latch    : s.status.fsm = .busy → t.latch = s.latch
  operands : s.status.fsm = .busy ∨ s.status.fsm = .waitDma → SameOperands s.regs t.regs

theorem Protects.of_same {s t : State} (hk : t.latch = s.latch) (hx : SameOperands s.regs t.regs) :
    Protects s t := ⟨fun _ => hx.bind, fun _ => hk, fun _ => hx⟩

theorem SameOperands.refl (x : HostRegs) : SameOperands x x := ⟨rfl, rfl, rfl, rfl, rfl, rfl, rfl⟩

theorem OwnOutputs.refl (i : Instr) (s : State) : OwnOutputs i s s :=
  ⟨.inl rfl, .inl rfl, .inl rfl, .inl ⟨rfl, rfl⟩⟩

section
variable {s u t : State} {i : Instr} {l : Label}

/-! ## The running command -/

/-- The primitives of a command leave `STATUS`, the latches and the operands. -/
theorem Acts.frame (a : Acts i s u) :
    u.status = s.status ∧ u.latch = s.latch ∧ SameOperands s.regs u.regs := by
  induction a with
  | none => exact ⟨rfl, rfl, .refl _⟩
  | statusSample _ ih | clkFreq _ _ ih | readConfig _ _ ih | xcount _ _ _ ih =>
    obtain ⟨hst, hk, hx⟩ := ih
    exact ⟨hst, hk, { hx with }⟩
  | _ => assumption

theorem Acts.outputs (a : Acts i s u) : OwnOutputs i s u := by
  induction a with
  | none => exact .refl i s
  | clkFreq _ hi ih => exact { ih with kclk := .inr (.inl hi) }
  | readConfig _ hi ih => exact { ih with rdcfg := .inr hi }
  | xcount _ hi _ ih => exact { ih with xcount := .inr hi }
  | setCurWidth a hn ih =>
    obtain ⟨-, hk, -⟩ := a.frame
    exact { ih with width := .inr (.inr (.inr ⟨_, hn, congrArg Latch.n hk⟩)) }
  | _ => rename_i ih; exact { ih with }

/-- SEQ never writes the latches or the operands. -/
theorem MicroStep.frame (h : MicroStep i l s t) :
    t.latch = s.latch ∧ SameOperands s.regs t.regs := by
  cases h with
  | goes a | flies a | ends a | fails a => exact a.frame.2
  | deinits => exact ⟨rfl, { SameOperands.refl s.regs with }⟩
  | joins => unfold dmaM11; split <;> exact ⟨rfl, .refl _⟩
  | haltsTx => unfold abortA0 abortA1; (repeat' split) <;> exact ⟨rfl, .refl _⟩
  | haltsRx => unfold abortA1; split <;> exact ⟨rfl, .refl _⟩
  | _ => exact ⟨rfl, .refl _⟩

theorem MicroStep.outputs (h : MicroStep i l s t) : OwnOutputs i s t := by
  cases h with
  | goes a | flies a | ends a | fails a => exact { a.outputs with }
  | initWidth hi => exact { OwnOutputs.refl i s with width := .inr (.inl hi) }
  | deinits hi =>
    exact { OwnOutputs.refl i s with kclk := .inr (.inr hi), width := .inr (.inr (.inl hi)) }
  | joins => unfold dmaM11; split <;> exact { OwnOutputs.refl i s with }
  | haltsTx => unfold abortA0 abortA1; (repeat' split) <;> exact { OwnOutputs.refl i s with }
  | haltsRx => unfold abortA1; split <;> exact { OwnOutputs.refl i s with }
  | _ => exact { OwnOutputs.refl i s with }

/-- The transitions of `STATE` by SEQ (R24). -/
theorem MicroStep.fsm (h : MicroStep i l s t) (hs : Inv s) (hat : At s i l) :
    t.status.fsm = s.status.fsm
    ∨ (s.status.fsm = .busy ∧ t.status.fsm = .idle ∧ i ≠ .deinit)
    ∨ (s.status.fsm = .busy ∧ t.status.fsm = .uninit ∧ i = .deinit)
    ∨ (s.status.fsm = .busy ∧ t.status.fsm = .waitDma ∧ isDma i = true)
    ∨ (s.status.fsm = .waitDma ∧ t.status.fsm = .busy ∧ joinHolds s.join = true)
    ∨ (s.status.fsm = .busy ∧ t.status.fsm = .fatal ∧ t.status.result = .fatal
        ∧ t.status.fcause ≠ .none) := by
  obtain ⟨-, hl, hi⟩ := at_iff.1 hat
  cases h with
  | goes a | flies a => exact .inl (congrArg Status.fsm a.frame.1)
  | ends a he =>
    obtain ⟨-, hk, -⟩ := a.frame
    have hb := hs.busy hl (by rintro rfl; cases he.ground.1)
    refine .inr (.inl ⟨hb, ?_, he.notDeinit⟩)
    rw [complete_eq_endedWith (hk ▸ hi) he.notDeinit]
    rfl
  | fails a hg hc =>
    have hb := hs.busy hl (by rintro rfl; cases hg.1)
    exact .inr (.inr (.inr (.inr (.inr ⟨hb, rfl, rfl, hc⟩))))
  | deinits hd e =>
    have hb := hs.busy hl (by rintro rfl; cases e)
    refine .inr (.inr (.inl ⟨hb, ?_, hd⟩))
    exact if_pos ((op_of_instr hi).trans (congrArg _ hd))
  | suspends hd e =>
    have hb := hs.busy hl (by rintro rfl; rcases e with e | e <;> cases e)
    exact .inr (.inr (.inr (.inl ⟨hb, rfl, hd⟩)))
  | joins e =>
    unfold dmaM11
    split
    · next hj => exact .inr (.inr (.inr (.inr (.inl ⟨hs.waiting.2 (e ▸ hl), rfl, hj⟩))))
    · exact .inl rfl
  | haltsTx => unfold abortA0 abortA1; (repeat' split) <;> exact .inl rfl
  | haltsRx => unfold abortA1; split <;> exact .inl rfl
  | _ => exact .inl rfl

/-! ## The other turns -/

/-- A host write to a register leaves `STATE` and the latches. -/
theorem writeReg_frame (s : State) (g : HostReg) (v : Word) :
    (s.writeReg g v).status.fsm = s.status.fsm ∧ (s.writeReg g v).latch = s.latch := by
  unfold State.writeReg
  (repeat' split) <;> exact ⟨rfl, rfl⟩

theorem writeReg_bind (s : State) (g : HostReg) (v : Word) (hf : s.status.fsm ≠ .uninit) :
    (s.writeReg g v).regs.bind = s.regs.bind := by
  cases g with
  | bind => exact congrArg (fun u : State => u.regs.bind) (if_neg hf)
  | cmd | kclk | width | rdcfg | rdfreq | xcount | ssample => rfl
  | _ => simp only [State.writeReg]; split <;> rfl

/-- Outside UNINIT and IDLE a host write changes no operand. -/
theorem writeReg_closed {s : State} (hf : operandsOpen s.status.fsm = false) (g : HostReg)
    (v : Word) : (s.writeReg g v).regs = s.regs := by
  have hu : s.status.fsm ≠ .uninit := fun e => by simp [e, operandsOpen] at hf
  cases g <;> simp [State.writeReg, hf, hu]
  split <;> rfl

/-- The turns of the other agents, but for host writes and reset, leave the block's registers, its
`STATUS` and its latches. -/
theorem turn_frame {k : Turn} (h : s.turn exec k = .next t) (hseq : k ≠ .seq)
    (hwrite : ∀ off size v, k ≠ .hostWrite off size v) (hreset : k ≠ .reset) :
    t.status = s.status ∧ t.latch = s.latch ∧ t.regs = s.regs := by
  cases k with
  | seq => exact absurd rfl hseq
  | hostWrite off size v => exact absurd rfl (hwrite off size v)
  | hostRead off size =>
    simp only [State.turn, State.hostRead] at h
    split at h <;> cases h
    exact ⟨rfl, rfl, rfl⟩
  | hostWait =>
    cases h
    unfold State.pollDone
    split <;> exact ⟨rfl, rfl, rfl⟩
  | memWrite a size v => cases h; exact ⟨rfl, rfl, rfl⟩
  | memRead a size => cases h; exact ⟨rfl, rfl, rfl⟩
  | dmaMove ch n =>
    cases h
    unfold State.dmaMove
    cases ch <;> (repeat' split) <;> exact ⟨rfl, rfl, rfl⟩
  | dmaDone ch =>
    cases h
    unfold State.dmaDone
    cases ch <;> (repeat' split) <;> exact ⟨rfl, rfl, rfl⟩
  | reset => exact absurd rfl hreset

end

/-- Settles O58, by what each step of a micro-program may change (`MicroStep.outputs`). -/
theorem outputRegistersHaveOneWriter : Obligations.OutputRegistersHaveOneWriter := by
  unfold Obligations.OutputRegistersHaveOneWriter
  intro s t i hrun h
  obtain ⟨l, -, hp⟩ := (exec_cases h).resolve_right fun hn => hn.1 hrun
  obtain ⟨hx, hk, hw, hr⟩ := (progOf_micro hp).outputs
  refine ⟨hx.resolve_left, hk.resolve_left, hw.resolve_left, fun hne => hr.resolve_left ?_⟩
  rintro ⟨h1, h2⟩
  exact hne.elim (absurd h1) (absurd h2)

/-- Every step but reset does. -/
theorem step_protects {s t : State} (hs : Inv s) (h : step s = .next t)
    (hreset : s.nextTurn ≠ .reset) : Protects s t := by
  have hs' := popTurn_inv hs
  rw [step_eq] at h
  generalize s.nextTurn = k at h hreset
  cases k with
  | seq =>
    rcases seqTurn_cases h with rfl | ⟨i, l, -, hm⟩
    · exact .of_same rfl (.refl _)
    · obtain ⟨hk, hx⟩ := hm.frame
      exact .of_same hk hx
  | hostWrite off size v =>
    rcases hostWrite_cases h with ⟨-, -, hcmd⟩ | ⟨g, rfl⟩
    · cases writeCmd_cases (record_inv hs' _) hcmd with
      | ignored | rejected => exact .of_same rfl (.refl _)
      | accepted hw =>
        refine ⟨fun _ => rfl, fun hb => ?_, fun _ => .refl _⟩
        simp [State.ignoresWord, hb] at hw
    · refine ⟨fun hu => writeReg_bind _ g v hu, fun _ => (writeReg_frame _ g v).2, fun hb => ?_⟩
      have hclosed : operandsOpen s.status.fsm = false := by
        rcases hb with hb | hb <;> rw [hb] <;> rfl
      exact writeReg_closed (s := s.popTurn.record (.hostWrite off v)) hclosed g v ▸ .refl _
  | _ =>
    obtain ⟨-, hk, hx⟩ := turn_frame h nofun nofun hreset
    exact .of_same hk (hx ▸ .refl _)

/-- Settles O57: SEQ writes neither the latches nor the operands, and the host only where
`STATE` lets it. -/
theorem runningCommandIsProtected : Obligations.RunningCommandIsProtected := by
  unfold Obligations.RunningCommandIsProtected
  intro s t hs h hreset
  obtain ⟨hbind, hk, hx⟩ := step_protects hs h hreset
  refine ⟨hbind, hk, fun hb => ?_⟩
  obtain ⟨hcfg, hfreq, -, htxaddr, hrxaddr, htxlen, hrxlen⟩ := hx hb
  exact ⟨hcfg, hfreq, htxaddr, hrxaddr, htxlen, hrxlen⟩

/-- The opcodes of INIT and ABORT are theirs alone (R93). -/
theorem opcode_ne {i : Instr} (hinit : i ≠ .init) (habort : i ≠ .abort) :
    i.opcode ≠ 0x01 ∧ i.opcode ≠ 0x30 := by
  cases i <;> simp_all [Instr.opcode]

/-- Settles O54: SEQ's transitions are those of `MicroStep.fsm`, the host's is the acceptance of a
command, in the state R93 gives for it. -/
theorem stateTransitions : Obligations.StateTransitions := by
  unfold Obligations.StateTransitions
  intro s t hs h hreset
  have hs' := popTurn_inv hs
  rw [step_eq] at h
  generalize s.nextTurn = k at h hreset ⊢
  cases k with
  | seq =>
    rcases seqTurn_cases h with rfl | ⟨i, l, hat, hm⟩
    · exact .inl rfl
    · obtain ⟨-, -, hi⟩ := at_iff.1 hat
      have hop : s.latch.op = i.opcode := op_of_instr hi
      rcases hm.fsm hs' hat with h | ⟨hb, ht, hne⟩ | ⟨hb, ht, hd⟩ | ⟨hb, ht, hd⟩ | ⟨hw, ht, hj⟩ | h
      · exact .inl h
      · exact .inr (.inr (.inr (.inl ⟨hb, ht, op_ne_deinit hi hne⟩)))
      · exact .inr (.inr (.inr (.inr (.inl ⟨hb, ht, hop.trans (congrArg _ hd)⟩))))
      · exact .inr (.inr (.inr (.inr (.inr (.inl ⟨hb, ht, i, hi, hd⟩)))))
      · refine .inr (.inr (.inr (.inr (.inr (.inr (.inl ⟨hw, ht, .inl ?_⟩))))))
        obtain ⟨htx, hrx⟩ := (joinHolds_iff s.join).1 hj
        exact ⟨fun hsub => by simpa [hsub] using htx, fun hsub => by simpa [hsub] using hrx⟩
      · exact .inr (.inr (.inr (.inr (.inr (.inr (.inr h))))))
  | hostWrite off size v =>
    rcases hostWrite_cases h with ⟨rfl, rfl, hcmd⟩ | ⟨g, rfl⟩
    · cases writeCmd_cases (record_inv hs' _) hcmd with
      | ignored | rejected => exact .inl rfl
      | @accepted i hw _ hc =>
        obtain ⟨hfsm, -⟩ := checks_none hc
        have hfsm : s.status.fsm = acceptedIn i := hfsm
        rcases acceptedIn_cases i with ⟨rfl, e⟩ | ⟨rfl, e⟩ | ⟨hinit, habort, e⟩
        · exact .inr (.inl ⟨hfsm, rfl, rfl⟩)
        · have hword : v = 0x30 := by simpa [State.ignoresWord, hfsm, e] using hw
          have habort : Turn.hostWrite 0x000 4 v = .hostWrite 0x000 4 0x30 := by rw [hword]
          exact .inr (.inr (.inr (.inr (.inr (.inr (.inl ⟨hfsm, rfl, .inr ⟨habort, rfl⟩⟩))))))
        · obtain ⟨h1, h30⟩ := opcode_ne hinit habort
          exact .inr (.inr (.inl ⟨hfsm.trans e, rfl, op_accept _ i ▸ h1, op_accept _ i ▸ h30⟩))
    · exact .inl (writeReg_frame _ g v).1
  | _ => exact .inl (congrArg Status.fsm (turn_frame h nofun nofun hreset).1)

/-- Settles O60: the cases of `exec_access` in which the control image may change. -/
theorem controlImageChangesOnlyByRecordedAccesses :
    Obligations.ControlImageChangesOnlyByRecordedAccesses := by
  unfold Obligations.ControlImageChangesOnlyByRecordedAccesses
  intro s t i h hne
  cases exec_access h with
  | silent _ hc | other _ _ hc => exact absurd hc hne
  | fieldWrite fs hj hc => exact .inl ⟨fs, hj, hc⟩
  | clkEnableReset hi hj hc => exact .inr (.inl ⟨hi, hj, hc⟩)
  | clkDisable hi hj => exact .inr (.inr ⟨hi, hj⟩)

end Sys2Proof.Machine
end

section
/-! SUPPORT. Single turns and the host register window (R21 to R32, R34, R48, R75, R77, R99, R104):
a turn on the agenda is taken in the state without it. -/

namespace Sys2Proof.Machine

/-! ## A command attempt -/

/-- A command without a width keeps the latched one (R35). -/
theorem accept_n_of_none (k : Latch) {i : Instr} (h : i.width = none) :
    (k.accept i).n = k.n ∧ (k.accept i).sz = k.sz := by
  cases i <;> cases h <;> exact ⟨rfl, rfl⟩

/-- Settles O6: acceptance, and the first label, command by command. -/
theorem acceptanceLatchesAndStarts : Obligations.AcceptanceLatchesAndStarts := by
  unfold Obligations.AcceptanceLatchesAndStarts
  intro s i h
  refine ⟨s.latch.accept i, firstLabel i, exec_ready h, op_accept _ i, fun n hn => ?_,
    accept_n_of_none _, ?_, fun hne => ?_, instr_accept _ i, ownsLabel_firstLabel i, ?_⟩
  · exact ⟨n_of_instr (instr_accept _ i) hn, sz_accept _ hn⟩
  · rintro t r rfl
    exact ⟨rfl, rfl⟩
  · cases i with
    | dmaen t r => exact absurd rfl (hne t r)
    | _ => exact ⟨rfl, rfl⟩
  · cases i <;> simp [firstLabel]

theorem writeCmd_decoded {s : State} {w : Word} {i : Instr} (hw : s.ignoresWord w = false)
    (hd : decode w = .ok i) : s.writeCmd exec w = exec i s := by
  rw [State.writeCmd, if_neg (by rw [hw]; nofun), hd]

theorem popTurn_running (s : State) : s.popTurn.running = s.running := rfl

/-- Settles O5: a `CMD` write that R96 does not ignore is the decoded command, and SEQ's turn is
`step_seq`. -/
theorem stepRunsTheDecodedCommand : Obligations.StepRunsTheDecodedCommand := by
  unfold Obligations.StepRunsTheDecodedCommand
  intro s ts
  refine ⟨fun w i hts hw hd => ?_, fun i hts hrun => ?_, fun hts hrun => ?_⟩
  · rw [step_of_agenda hts]
    exact writeCmd_decoded (s := { s with
      env := { s.env with agenda := ts }, journal := s.journal ++ [.hostWrite 0x000 w] }) hw hd
  · rw [step_seq (nextTurn_of_agenda hts), popTurn_running, hrun, popTurn_of_agenda hts]
  · rw [step_seq (nextTurn_of_agenda hts), popTurn_running, hrun, popTurn_of_agenda hts]

/-! ## A completion -/

theorem dmaDone_idle {s : State} {ch : Channel} (hf : s.flight ch = none) : s.dmaDone ch = s := by
  rw [State.dmaDone, hf]

theorem dmaDone_moved {s : State} {ch : Channel} {f : Flight} (hf : s.flight ch = some f)
    (hm : f.moved.length = f.desc.moves) : s.dmaDone ch =
      { s.setFlight ch none with join := s.join.complete ch }.record (.completion ch) := by
  rw [State.dmaDone, hf]
  exact if_pos hm

/-- A submitted channel's latch (R34). -/
theorem complete_tx {j : Join} (h : j.txsub = true) :
    j.complete .tx = { j with txdone := true } := by
  simp [Join.complete, h]

theorem complete_rx {j : Join} (h : j.rxsub = true) :
    j.complete .rx = { j with rxdone := true } := by
  simp [Join.complete, h]

/-- Settles O40, by the two branches of `State.dmaDone`. -/
theorem completionSetsTheLatchOnce : Obligations.CompletionSetsTheLatchOnce := by
  unfold Obligations.CompletionSetsTheLatchOnce
  intro s ts
  have hstep {ch : Channel} {t : State} (hts : s.env.agenda = .dmaDone ch :: ts)
      (ht : State.dmaDone { s with env := { s.env with agenda := ts } } ch = t) :
      step s = .next t := (step_of_agenda hts).trans (congrArg _ ht)
  refine ⟨fun f hts hf hm hsub => ?_, fun f hts hf hm hsub => ?_,
    fun hts hf => hstep hts (dmaDone_idle (ch := .tx) hf),
    fun hts hf => hstep hts (dmaDone_idle (ch := .rx) hf)⟩
  · rw [← complete_tx hsub]
    exact hstep hts (dmaDone_moved (ch := .tx) hf hm)
  · rw [← complete_rx hsub]
    exact hstep hts (dmaDone_moved (ch := .rx) hf hm)

/-! ## Reset -/

/-- Settles O51: `resetWith_inv`, and each register at reset. -/
theorem resetStateIsLegal : Obligations.ResetStateIsLegal := by
  unfold Obligations.ResetStateIsLegal
  intro p hp
  have hstatus : (State.resetWith p).readReg .status = 0 :=
    (by decide : statusWord ⟨.uninit, false, false, .ok, .none⟩ ⟨false, false, false, false⟩ = 0)
  have hreg (g : HostReg) : (State.resetWith p).readReg g = 0 := by
    cases g with
    | status => exact hstatus
    | _ => rfl
  refine ⟨resetWith_inv hp, hstatus, fun off => ?_, rfl, rfl, rfl, rfl, rfl⟩
  unfold State.readOffset
  split
  · exact hreg _
  · rfl

/-! ## The fields of `STATUS` and `SSAMPLE` -/

section
variable (rxsub txsub rxdone txdone : Bool) (cause result : BitVec 4) (lost done : Bool)
    (state : BitVec 3)

/-- A word with the layout of `STATUS`, for any codes (R23). -/
def statusLayout := 0#12 ++ BitVec.ofBool rxsub ++ BitVec.ofBool txsub ++ BitVec.ofBool rxdone
  ++ BitVec.ofBool txdone ++ cause ++ result ++ 0#3 ++ BitVec.ofBool lost ++ BitVec.ofBool done
  ++ state

/-- Its one-bit fields. -/
theorem statusLayout_bits :
    let w := statusLayout rxsub txsub rxdone txdone cause result lost done state
    w.getLsbD 3 = done ∧ w.getLsbD 4 = lost ∧ w.getLsbD 16 = txdone ∧ w.getLsbD 17 = rxdone
      ∧ w.getLsbD 18 = txsub ∧ w.getLsbD 19 = rxsub := by
  simp only [statusLayout, BitVec.getLsbD_append]
  simp

/-- Its wider fields, each above those to its right. -/
theorem statusLayout_fields :
    let w := statusLayout rxsub txsub rxdone txdone cause result lost done state
    w.extractLsb' 0 3 = state ∧ w.extractLsb' 5 3 = 0 ∧ w.extractLsb' 8 4 = result
      ∧ w.extractLsb' 12 4 = cause ∧ w.extractLsb' 20 12 = 0 := by
  unfold statusLayout
  refine ⟨BitVec.extractLsb'_append_eq_right, ?_, ?_, ?_, ?_⟩
  · iterate 3 rw [BitVec.extractLsb'_append_eq_of_le (by decide)]
    exact BitVec.extractLsb'_append_eq_right
  · iterate 4 rw [BitVec.extractLsb'_append_eq_of_le (by decide)]
    exact BitVec.extractLsb'_append_eq_right
  · iterate 5 rw [BitVec.extractLsb'_append_eq_of_le (by decide)]
    exact BitVec.extractLsb'_append_eq_right
  · iterate 10 rw [BitVec.extractLsb'_append_eq_of_le (by decide)]
    rfl
end

/-- The bits of `SSAMPLE`, for each of the 256 samples. -/
theorem ssampleWord_fields (x : Sample) :
    let w := ssampleWord x
    w.getLsbD 0 = x.ovr ∧ w.getLsbD 1 = x.fre ∧ w.getLsbD 2 = x.modf ∧ w.getLsbD 3 = x.crce
      ∧ w.getLsbD 4 = x.txrdy ∧ w.getLsbD 5 = x.rxrdy ∧ w.getLsbD 6 = x.bsy ∧ w.getLsbD 7 = x.tc
      ∧ w.extractLsb' 8 24 = 0 := by
  obtain ⟨o, f, m, c, t, r, b, k⟩ := x
  revert o f m c t r b k
  decide

/-- Settles O45: `STATUS` by its layout, `SSAMPLE` bit by bit. -/
theorem statusAndSsampleFields : Obligations.StatusAndSsampleFields := by
  unfold Obligations.StatusAndSsampleFields
  intro st j x g
  obtain ⟨hdone, hlost, htxdone, hrxdone, htxsub, hrxsub⟩ := statusLayout_bits j.rxsub j.txsub
    j.rxdone j.txdone st.fcause.code st.result.code st.lost st.done st.fsm.code
  obtain ⟨hstate, hlow, hresult, hcause, hhigh⟩ := statusLayout_fields j.rxsub j.txsub j.rxdone
    j.txdone st.fcause.code st.result.code st.lost st.done st.fsm.code
  refine ⟨⟨hstate, hdone, hlost, hlow, hresult, hcause, htxdone, hrxdone, htxsub, hrxsub, hhigh⟩,
    ssampleWord_fields x, by decide, by decide, by decide, fun hg => ?_, fun hg => ?_⟩
  · cases g with
    | gen1 | gen2 => rfl
    | gen3 => exact absurd rfl hg
  · subst hg; rfl

/-! ## Host writes -/

section
variable {s : State} {ts : List Turn} {off : BitVec 12} {v : Word}

theorem accessOk_word (h : off.toNat % 4 = 0) : accessOk off 4 = true := by simp [accessOk, h]

/-- A host write to a register other than `CMD`. -/
theorem step_writeReg (hts : s.env.agenda = .hostWrite off 4 v :: ts) (hoff : off.toNat % 4 = 0)
    {g : HostReg} (hg : regAt off = some g) (hcmd : g ≠ .cmd) :
    step s = .next
      (({ s with env := { s.env with agenda := ts } }.record (.hostWrite off v)).writeReg g v) := by
  rw [step_of_agenda hts, State.turn, State.hostWrite, if_pos (accessOk_word hoff), hg]
  cases g with
  | cmd => exact absurd rfl hcmd
  | _ => rfl

theorem step_writeReserved (hts : s.env.agenda = .hostWrite off 4 v :: ts)
    (hoff : off.toNat % 4 = 0) (hg : regAt off = none) :
    step s = .next ({ s with env := { s.env with agenda := ts } }.record (.hostWrite off v)) := by
  rw [step_of_agenda hts, State.turn, State.hostWrite, if_pos (accessOk_word hoff), hg]

/-- The registers that take no host write: those from `KCLK` up. -/
def HostReg.readOnly (g : HostReg) : Bool :=
  match g with
  | .kclk | .width | .rdcfg | .rdfreq | .xcount | .ssample => true
  | _ => false

theorem writeReg_readOnly {g : HostReg} (hg : g.readOnly = true) (s : State) (v : Word) :
    s.writeReg g v = s := by
  cases g <;> cases hg <;> rfl

theorem offset_lt_of_writable {g : HostReg} (hg : g.readOnly = false) : g.offset.toNat < 0x024 := by
  cases g <;> cases hg <;> decide

theorem offset_lt_reserved (g : HostReg) : g.offset.toNat < 0x03C := by cases g <;> decide

theorem regAt_offset (g : HostReg) : regAt g.offset = some g := by cases g <;> rfl

/-- What stands at the offsets from `KCLK` up (R21). -/
theorem regAt_high (h : 0x024 ≤ off.toNat) :
    regAt off = none ∨ ∃ g, regAt off = some g ∧ g.readOnly = true := by
  cases hg : regAt off with
  | none => exact .inl rfl
  | some g =>
    refine .inr ⟨g, rfl, ?_⟩
    by_contra hro
    have hlt := offset_lt_of_writable (Bool.eq_false_iff.2 hro)
    rw [offset_of_regAt hg] at hlt
    omega

theorem regAt_reserved (h : 0x03C ≤ off.toNat) : regAt off = none := by
  cases hg : regAt off with
  | none => rfl
  | some g =>
    have hlt := offset_lt_reserved g
    rw [offset_of_regAt hg] at hlt
    omega

end

/-- Settles O46, register by register. -/
theorem hostWritesTakeEffectByState : Obligations.HostWritesTakeEffectByState := by
  unfold Obligations.HostWritesTakeEffectByState
  intro s off v ts hts hoff seen opened
  have hopen (h : opened) : operandsOpen s.status.fsm = true := by
    rcases h with h | h <;> rw [h] <;> rfl
  have hclosed (h : ¬opened) : operandsOpen s.status.fsm = false := by
    cases hf : s.status.fsm <;> simp_all [opened, operandsOpen]
  have hshut (h : ¬opened) : ¬operandsOpen s.status.fsm = true := by rw [hclosed h]; nofun
  have hwrite (g : HostReg) {t : State} (hg : regAt off = some g) (hcmd : g ≠ .cmd)
      (ht : seen.writeReg g v = t) : step s = .next t :=
    (step_writeReg hts hoff hg hcmd).trans (congrArg _ ht)
  have hat (g : HostReg) {t : State} (e : off = g.offset) (hcmd : g ≠ .cmd)
      (ht : seen.writeReg g v = t) : step s = .next t := hwrite g (e ▸ regAt_offset g) hcmd ht
  refine ⟨fun h e => hat .cfg e nofun (if_pos (hopen h)),
    fun h e => hat .freq e nofun (if_pos (hopen h)),
    fun h e => hat .txaddr e nofun (if_pos (hopen h)),
    fun h e => hat .rxaddr e nofun (if_pos (hopen h)),
    fun h e => hat .txlen e nofun (if_pos (hopen h)),
    fun h e => hat .rxlen e nofun (if_pos (hopen h)),
    fun h e => hat .bind e nofun (if_pos h),
    fun h ho => ?_,
    fun h e => hat .bind e nofun (if_neg h),
    fun e h => hat .status e nofun (if_pos h),
    fun e h => hat .status e nofun (if_neg (by rw [h]; nofun)),
    fun h => ?_⟩
  · rcases ho with e | e | e | e | e | e
    · exact hat .cfg e nofun (if_neg (hshut h))
    · exact hat .freq e nofun (if_neg (hshut h))
    · exact hat .txaddr e nofun (if_neg (hshut h))
    · exact hat .rxaddr e nofun (if_neg (hshut h))
    · exact hat .txlen e nofun (if_neg (hshut h))
    · exact hat .rxlen e nofun (if_neg (hshut h))
  · rcases regAt_high h with hg | ⟨g, hg, hro⟩
    · exact step_writeReserved hts hoff hg
    · exact hwrite g hg (by rintro rfl; cases hro) (writeReg_readOnly hro _ _)

/-! ## Host reads, waits and memory accesses -/

section
variable {s : State} {ts : List Turn}

/-- What the host is sure to see of memory after a read at an offset (R75). -/
theorem afterRead_synced (s : State) (off : BitVec 12) : s.afterRead off = { s with
    view :=
      if off = 0x004 then (if s.status.done = true then ⟨s.mem, []⟩ else s.view) else s.view } := by
  unfold State.afterRead
  by_cases ho : off = 0x004 <;> by_cases hd : s.status.done = true <;> simp [ho, hd]

theorem step_hostRead {off : BitVec 12} (hts : s.env.agenda = .hostRead off 4 :: ts)
    (hoff : off.toNat % 4 = 0) : step s = .next
      (({ s with env := { s.env with agenda := ts } }.afterRead off).record
        (.hostRead off (s.readOffset off))) := by
  rw [step_of_agenda hts, State.turn, State.hostRead, if_pos (accessOk_word hoff)]
  rfl

/-- A poll that finds `DONE` = 0, where the environment lists the turns before the next one and none
of them is the host's own (R104). -/
theorem pollDone_listed {us : List Turn} {bs : List (List Turn)} (hd : s.status.done = false)
    (hb : s.env.between = us :: bs) (hus : ∀ u ∈ us, u.ofHost = false) :
    s.pollDone = { s with env := { s.env with
      agenda := us ++ Turn.hostWait :: s.env.agenda, between := bs
      draws := s.env.draws + 1 } }.record (.hostRead 0x004 (statusWord s.status s.join)) := by
  have hothers : othersTurns us = us := List.filter_eq_self.2 fun u hu => by simp [hus u hu]
  have hpause : s.env.pauseTurns = us := by simp only [Env.pauseTurns, hb, hothers]
  rw [State.pollDone, if_neg (by rw [hd]; nofun), Env.afterPoll, hpause, hb]
  rfl

end

/-- Settles O44, turn by turn; what a read of memory may see is `exists_visible` one way, and
`visible_sublist` with `visible_own` the other. -/
theorem hostReadsWaitsAndMemoryAccesses : Obligations.HostReadsWaitsAndMemoryAccesses := by
  unfold Obligations.HostReadsWaitsAndMemoryAccesses
  intro s ts synced
  refine ⟨fun off hts hoff => ?_, fun hts hd => ?_, fun us bs hts hd hb hus => ?_,
    fun a size ws hts hsub hown => ?_, fun a size hts => ?_, fun a size v hts => ?_⟩
  · have hread (g : HostReg) (e : off = g.offset) : s.readOffset off = s.readReg g := by
      rw [State.readOffset, e, regAt_offset]
    refine ⟨s.readOffset off, ?_, hread .cmd, hread .status, hread .cfg, hread .freq, hread .bind,
      hread .txaddr, hread .rxaddr, hread .txlen, hread .rxlen, hread .kclk, hread .width,
      hread .rdcfg, hread .rdfreq, hread .xcount, hread .ssample, fun h => ?_⟩
    · rw [step_hostRead hts hoff, afterRead_synced]
      rfl
    · rw [State.readOffset, regAt_reserved h]
  · rw [step_of_agenda hts, State.turn, State.pollDone, if_pos hd, afterRead_synced, if_pos rfl,
      if_pos hd]
    rfl
  · have hothers : ∀ u ∈ us, u.ofHost = false := fun u hu => by
      obtain ⟨hwait, hwrite, hread⟩ := hus u hu
      cases u with
      | hostWait => exact absurd rfl hwait
      | hostWrite off size v => exact absurd rfl (hwrite off size v)
      | hostRead off size => exact absurd rfl (hread off size)
      | _ => rfl
    rw [step_of_agenda hts]
    exact congrArg _
      (pollDone_listed (s := { s with env := { s.env with agenda := ts } }) hd hb hothers)
  · obtain ⟨pick, rfl⟩ := exists_visible hsub hown
    exact ⟨pick, fun ps =>
      step_of_agenda (s := { s with env := { s.env with picks := pick :: ps } }) hts⟩
  · refine ⟨visible s.env.nextPick s.view.later, visible_sublist _ _, visible_own _ _, ?_⟩
    rw [step_of_agenda hts]
    rfl
  · rw [step_of_agenda hts]
    rfl

end Sys2Proof.Machine
end

section
/-! SUPPORT. Elements of system memory (R62, R63, R66): a store and a load as bytes at wrapping
addresses; and which bytes a step can change (R64, R183 to R186, R204). -/

namespace Sys2Proof.Machine

/-! ## Bytes of an element -/

/-- Byte addresses wrap (R9). -/
theorem byteAddr_toNat (a : Word) (k : Nat) :
    (a + BitVec.ofNat 32 k).toNat = (a.toNat + k) % 2 ^ 32 := by
  simp [BitVec.toNat_add]

theorem elemAddr_toNat (a i : Word) (sz : Nat) :
    (elemAddr a i sz).toNat = (a.toNat + i.toNat * sz) % 2 ^ 32 := by
  simp [elemAddr, BitVec.toNat_add, BitVec.toNat_mul]

theorem Flight.elem_toNat (f : Flight) (a : Word) (e : Nat) :
    (f.elem a e).toNat = (a.toNat + e * f.desc.esize) % 2 ^ 32 := by
  rw [Flight.elem, elemAddr_toNat, BitVec.toNat_ofNat, Nat.add_mod, Nat.mod_mul_mod, ← Nat.add_mod]

/-- A byte that a store changes is one of its own. -/
theorem byte_of_read_store_ne {m : Memory} (hm : m.wf) {a : Word} {sz v b : Nat}
    (h : (m.store a sz v).read b ≠ m.read b) : ∃ k < sz, b = (a.toNat + k) % 2 ^ 32 := by
  by_contra hb
  refine h (read_store_other hm a sz v b fun k hk e => hb ⟨k, hk, ?_⟩)
  rw [e, byteAddr_toNat]

/-- A load after a store of the same bytes returns what of the value fits them. -/
theorem load_store_same {m : Memory} (hm : m.wf) (a : Word) {sz : Nat} (hsz : sz ≤ 2 ^ 32)
    (v : Nat) : (m.store a sz v).load a sz = v % 2 ^ (8 * sz) := by
  induction sz generalizing m a v with
  | zero => simp [Memory.load, Nat.mod_one]
  | succ sz ih =>
    have hrest := ih (wf_write hm a.isLt (BitVec.ofNat 8 v)) (a + 1) (by omega) (v / 256)
    have hlow : (m.store a (sz + 1) v).read a.toNat = BitVec.ofNat 8 v := by
      simpa using read_store_same hm a (sz + 1) v 0 (by omega) hsz
    calc (m.store a (sz + 1) v).load a (sz + 1)
        = v % 256 + 256 * (v / 256 % 2 ^ (8 * sz)) := by
          rw [Memory.load, hlow, Memory.store, hrest, BitVec.toNat_ofNat]
      _ = v % (256 * 2 ^ (8 * sz)) := Nat.mod_mul.symm
      _ = v % 2 ^ (8 * (sz + 1)) := by rw [Nat.mul_succ, Nat.pow_add, Nat.mul_comm]

/-- A load is the sum of its bytes, each by its weight. -/
theorem load_eq_sum (m : Memory) (a : Word) (sz : Nat) :
    m.load a sz = ((List.range sz).map fun k =>
      (m.read ((a.toNat + k) % 2 ^ 32)).toNat * 256 ^ k).sum := by
  induction sz generalizing a with
  | zero => rfl
  | succ sz ih =>
    have haddr (k : Nat) : ((a + 1).toNat + k) % 2 ^ 32 = (a.toNat + (k + 1)) % 2 ^ 32 := by
      rw [← byteAddr_toNat, ← byteAddr_toNat, succ_addr]
    have hhead : (a.toNat + 0) % 2 ^ 32 = a.toNat := Nat.mod_eq_of_lt a.isLt
    rw [Memory.load, ih, List.range_succ_eq_map, List.map_cons, List.sum_cons, List.map_map,
      ← List.sum_map_mul_left, hhead, Nat.pow_zero, Nat.mul_one]
    refine congrArg (_ + List.sum ·) (List.map_congr_left fun k _ => ?_)
    rw [Function.comp_apply, haddr, pow_succ' 256 k, Nat.mul_left_comm]

theorem load_one (m : Memory) (a : Word) : m.load a 1 = (m.read a.toNat).toNat := rfl

/-- Settles O48: `load_store_same`, and `read_store_other` for the other bytes. -/
theorem storeThenLoad : Obligations.StoreThenLoad := by
  unfold Obligations.StoreThenLoad
  intro m a sz v hm hsz
  refine ⟨load_store_same hm a (by omega) v, fun b hb => ?_⟩
  exact read_store_other hm a sz v b fun k hk => byteAddr_toNat a k ▸ hb k hk

/-- Settles O49: `read_store_same` byte by byte, and `load_eq_sum`. -/
theorem littleEndianElement : Obligations.LittleEndianElement := by
  unfold Obligations.LittleEndianElement
  intro m a sz v hm hsz
  have hbyte (k : Nat) (hk : k < 2) :
      (m.store a 2 0xAABB).load (a + BitVec.ofNat 32 k) 1 = 0xAABB / 256 ^ k % 256 := by
    rw [load_one, read_store_same hm a 2 0xAABB k hk (by decide), BitVec.toNat_ofNat]
  refine ⟨fun k hk => ?_, load_eq_sum m a sz, ?_, hbyte 1 (by decide)⟩
  · rw [← byteAddr_toNat, read_store_same hm a sz v k hk (by omega)]
  · simpa using hbyte 0 (by decide)

/-! ## The stores of a step -/

section
variable {s t : State}

/-- A `CMD` write stores nothing: a blocking command at its sink is in BUSY, where the write is
ignored, or in WAIT_DMA, where only ABORT's is not (R96). -/
theorem writeCmd_mem {w : Word} (h : s.writeCmd exec w = .next t) : t.mem = s.mem := by
  unfold State.writeCmd at h
  split at h
  · cases h; rfl
  · next hw =>
    split at h
    · cases h; rfl
    · next i hd =>
      rcases exec_memory h with ⟨hmem, -⟩ | ⟨hb, hat, -⟩
      · exact hmem
      · rcases (at_iff.1 hat).1 with hf | hf
        · simp [State.ignoresWord, hf] at hw
        · have hword : w = 0x30 := by simpa [State.ignoresWord, hf] using hw
          have habort : decode 0x30 = .ok .abort := by decide
          rw [hword, habort] at hd
          cases hd
          cases hb

theorem writeReg_mem (s : State) (g : HostReg) (v : Word) : (s.writeReg g v).mem = s.mem := by
  unfold State.writeReg
  (repeat' split) <;> rfl

/-- A move by a DMA channel stores the element it receives, if it stores at all. -/
theorem dmaMove_mem (s : State) (ch : Channel) (e : Nat) : (s.dmaMove ch e).mem = s.mem
    ∨ ∃ f a v, s.flight ch = some f ∧ f.desc.dir = .p2m ∧ f.desc.mem = .addr a
      ∧ (s.dmaMove ch e).mem = s.mem.store (f.elem a e) f.desc.esize v := by
  have hset (g : Option Flight) : (s.setFlight ch g).mem = s.mem := by cases ch <;> rfl
  unfold State.dmaMove
  split
  · exact .inl rfl
  · next f hf =>
    split
    · exact .inl rfl
    · next a ha =>
      split
      · split
        · exact .inl (hset _)
        · next hd => exact .inr ⟨f, a, _, hf, hd, ha, congrArg (Memory.store · _ _ _) (hset _)⟩
      · exact .inl rfl

theorem dmaDone_mem (s : State) (ch : Channel) : (s.dmaDone ch).mem = s.mem := by
  unfold State.dmaDone
  cases ch <;> (repeat' split) <;> rfl

theorem pollDone_mem (s : State) : s.pollDone.mem = s.mem := by
  unfold State.pollDone
  split <;> rfl

/-- Everything a turn can do to memory: nothing, or the one store of a blocking command's sink, of
a receive channel, or of a bus master. -/
theorem turn_mem {k : Turn} (h : s.turn exec k = .next t) : t.mem = s.mem
    ∨ (∃ i, isBlocking i = true ∧ At s i (.blk .l4) ∧ k = .seq ∧ t.mem = (sinkMem s).mem)
    ∨ (∃ ch e f a v, k = .dmaMove ch e ∧ s.flight ch = some f ∧ f.desc.dir = .p2m
      ∧ f.desc.mem = .addr a ∧ t.mem = s.mem.store (f.elem a e) f.desc.esize v)
    ∨ ∃ a sz v, k = .memWrite a sz v ∧ t.mem = s.mem.store a sz v.toNat := by
  cases k with
  | seq =>
    simp only [State.turn, State.seqTurn] at h
    split at h
    · rcases exec_memory h with ⟨hmem, -⟩ | ⟨hb, hat, rfl⟩
      · exact .inl hmem
      · exact .inr (.inl ⟨_, hb, hat, rfl, rfl⟩)
    · cases h; exact .inl rfl
  | hostWrite off size v =>
    rcases hostWrite_cases h with ⟨-, -, hcmd⟩ | ⟨g, rfl⟩
    · exact .inl (writeCmd_mem (s := s.record (.hostWrite off v)) hcmd)
    · exact .inl (writeReg_mem _ g v)
  | hostRead off size =>
    simp only [State.turn, State.hostRead] at h
    split at h <;> cases h
    exact .inl rfl
  | hostWait => cases h; exact .inl (pollDone_mem s)
  | memWrite a sz v => cases h; exact .inr (.inr (.inr ⟨a, sz, v, rfl, rfl⟩))
  | memRead a sz => cases h; exact .inl rfl
  | dmaMove ch e =>
    cases h
    rcases dmaMove_mem s ch e with hmem | ⟨f, a, v, hmove⟩
    · exact .inl hmem
    · exact .inr (.inr (.inl ⟨ch, e, f, a, v, rfl, hmove⟩))
  | dmaDone ch => cases h; exact .inl (dmaDone_mem s ch)
  | reset => cases h; exact .inl rfl

end

/-- Settles O50: a step is one turn, which makes at most one store (`turn_mem`), and a store changes
its own bytes only. -/
theorem memoryChangesOnlyInStoredBytes : Obligations.MemoryChangesOnlyInStoredBytes := by
  unfold Obligations.MemoryChangesOnlyInStoredBytes
  intro s t b hm h hb
  rcases turn_mem (s := s.popTurn) h with hmem | ⟨i, hi, hat, hk, hmem⟩
    | ⟨ch, e, f, a, v, hk, hf, hd, ha, hmem⟩ | ⟨a, sz, v, hk, hmem⟩
  · exact absurd (congrArg (Memory.read · b) hmem) hb
  · rw [hmem] at hb
    obtain ⟨k, hlt, rfl⟩ := byte_of_read_store_ne hm hb
    refine .inl ⟨i, k, hi, hat, hk, hlt, ?_⟩
    rw [elemAddr_toNat, Nat.mod_add_mod]
    rfl
  · rw [hmem] at hb
    obtain ⟨k, hlt, rfl⟩ := byte_of_read_store_ne hm hb
    refine .inr (.inl ⟨ch, e, f, a, k, hk, hf, hd, ha, hlt, ?_⟩)
    rw [Flight.elem_toNat, Nat.mod_add_mod]
  · rw [hmem] at hb
    obtain ⟨k, hlt, rfl⟩ := byte_of_read_store_ne hm hb
    exact .inr (.inr ⟨a, sz, v, k, hk, hlt, rfl⟩)

end Sys2Proof.Machine
end

section
/-! SUPPORT. Where the machine stops (R61, R95, R99, R265): on a host access that is not 32 bits
wide and aligned, and in a legal state on nothing else. -/

namespace Sys2Proof.Machine

/-- R61: the accesses that have a step. -/
theorem accessOk_iff {off : BitVec 12} {size : Nat} :
    accessOk off size = true ↔ size = 4 ∧ off.toNat % 4 = 0 := by
  simp [accessOk]

theorem not_accessOk_iff {off : BitVec 12} {size : Nat} :
    ¬accessOk off size = true ↔ size ≠ 4 ∨ off.toNat % 4 ≠ 0 := by
  rw [accessOk_iff, not_and_or]

section
variable {s : State} {off : BitVec 12} {size : Nat}

theorem hostWrite_refused (h : ¬accessOk off size = true) (v : Word) :
    s.hostWrite exec off size v = .refused .hostAccess := if_neg h

theorem hostRead_refused (h : ¬accessOk off size = true) :
    s.hostRead off size = .refused .hostAccess := if_neg h

/-- In a legal state no command stops: `mpc` names a label of the latched command, and the
command's program has a step for each of its labels. -/
theorem exec_next (hs : Inv s) (i : Instr) : ∃ t, exec i s = .next t := by
  cases h : exec i s with
  | next t => exact ⟨t, rfl⟩
  | fault r =>
    obtain ⟨l, ⟨hrun, hl⟩, hnone⟩ := exec_fault_cases h
    obtain ⟨-, -, hi⟩ := running_eq_some.1 hrun
    obtain ⟨j, hj, hown⟩ := hs.owned l hl
    cases hi.symm.trans hj
    obtain ⟨t, ht⟩ := progOf_isSome hown s
    cases hnone.symm.trans ht
  | refused r => exact absurd h (exec_ne_refused i s r)

theorem writeCmd_next (hs : Inv s) (w : Word) : ∃ t, s.writeCmd exec w = .next t := by
  unfold State.writeCmd
  split
  · exact ⟨_, rfl⟩
  · split
    · exact ⟨_, rfl⟩
    · exact exec_next hs _

theorem hostWrite_next (hs : Inv s) (h : accessOk off size = true) (v : Word) :
    ∃ t, s.hostWrite exec off size v = .next t := by
  rw [State.hostWrite, if_pos h]
  split
  · exact writeCmd_next (record_inv hs _) v
  · exact ⟨_, rfl⟩
  · exact ⟨_, rfl⟩

theorem seqTurn_next (hs : Inv s) : ∃ t, s.seqTurn exec = .next t := by
  unfold State.seqTurn
  split
  · exact exec_next hs _
  · exact ⟨_, rfl⟩

/-- In a legal state a turn stops only where it is a host access that R61 refuses. -/
theorem turn_next_or_refused (hs : Inv s) (k : Turn) : (∃ t, s.turn exec k = .next t)
    ∨ s.turn exec k = .refused .hostAccess ∧ ∃ off size, (size ≠ 4 ∨ off.toNat % 4 ≠ 0)
      ∧ ((∃ v, k = .hostWrite off size v) ∨ k = .hostRead off size) := by
  cases k with
  | seq => exact .inl (seqTurn_next hs)
  | hostWrite off size v =>
    by_cases hok : accessOk off size = true
    · exact .inl (hostWrite_next hs hok v)
    · exact .inr ⟨hostWrite_refused hok v, off, size, not_accessOk_iff.1 hok, .inl ⟨v, rfl⟩⟩
  | hostRead off size =>
    by_cases hok : accessOk off size = true
    · exact .inl ⟨_, if_pos hok⟩
    · exact .inr ⟨hostRead_refused hok, off, size, not_accessOk_iff.1 hok, .inr rfl⟩
  | _ => exact .inl ⟨_, rfl⟩

end

/-- Settles O47: the next turn is the access, and `accessOk` fails of it. -/
theorem narrowOrUnalignedHostAccessIsRefused :
    Obligations.NarrowOrUnalignedHostAccessIsRefused := by
  unfold Obligations.NarrowOrUnalignedHostAccessIsRefused
  intro s off size v ts hts hbad
  have hno := not_accessOk_iff.2 hbad
  rcases hts with hts | hts
  · rw [step_of_agenda hts]
    exact hostWrite_refused hno v
  · rw [step_of_agenda hts]
    exact hostRead_refused hno

/-- Settles O53, by `exec_next` for the commands and `turn_next_or_refused` for the step. -/
theorem nothingButBadHostAccessesStops : Obligations.NothingButBadHostAccessesStops := by
  unfold Obligations.NothingButBadHostAccessesStops
  intro s hs
  exact ⟨exec_next hs, turn_next_or_refused (popTurn_inv hs) s.nextTurn⟩

end Sys2Proof.Machine
end

section
/-! SUPPORT. Command words (R90 to R93, R101): a word that decodes is the opcode and the operand
bits of its command's format, and the reserved opcodes are those the map of R93 leaves out. -/

namespace Sys2Proof

/-- Every well-formed command comes back from its word (R90 to R93), by the law of each constructor. -/
theorem decode_encode (i : Instr) : Laws.RoundTrip.Statement i :=
  match i with
  | .init => Laws.RoundTrip.init
  | .deinit => Laws.RoundTrip.deinit
  | .setConfig => Laws.RoundTrip.setConfig
  | .getConfig => Laws.RoundTrip.getConfig
  | .setWidth n => Laws.RoundTrip.setWidth n
  | .flush => Laws.RoundTrip.flush
  | .blkWrite n => Laws.RoundTrip.blkWrite n
  | .blkRead n => Laws.RoundTrip.blkRead n
  | .blkXfer n => Laws.RoundTrip.blkXfer n
  | .blkXferIp n => Laws.RoundTrip.blkXferIp n
  | .dmaWrite n => Laws.RoundTrip.dmaWrite n
  | .dmaRead n => Laws.RoundTrip.dmaRead n
  | .dmaXfer n => Laws.RoundTrip.dmaXfer n
  | .dmaXferIp n => Laws.RoundTrip.dmaXferIp n
  | .abort => Laws.RoundTrip.abort
  | .enSet => Laws.RoundTrip.enSet
  | .enClr => Laws.RoundTrip.enClr
  | .drain => Laws.RoundTrip.drain
  | .poll => Laws.RoundTrip.poll
  | .dmaen t r => Laws.RoundTrip.dmaen t r
  | .finish => Laws.RoundTrip.finish

/-- Settles O1: `decode_encode`. -/
theorem decodeOfEncodeIsTheCommand : Obligations.DecodeOfEncodeIsTheCommand := by
  unfold Obligations.DecodeOfEncodeIsTheCommand
  exact decode_encode

/-! ## What the decoder answers -/

/-- A word that decodes: its opcode and fields name the command, and no reserved bit is set. -/
theorem decode_ok {w : Word} {i : Instr} (h : decode w = .ok i) :
    instrOf (opField w) (widthField w) (tField w) (rField w) = some i
      ∧ w &&& i.format.reserved = 0 := by
  unfold decode at h
  split at h
  · cases h
  · next hi =>
    split at h
    · next hres => cases h; exact ⟨hi, hres⟩
    · cases h

theorem decode_reservedOpcode_iff {w : Word} : decode w = .error .reservedOpcode ↔
    instrOf (opField w) (widthField w) (tField w) (rField w) = none := by
  unfold decode
  split
  · next hi => simp [hi]
  · next hi => split <;> simp [hi]

/-! ## A word from its fields -/

/-- The operand bits of a format, in place (R91): `Instr.operandBits` by its format. -/
def Format.operand (f : Format) (n : Nat) (t r : BitVec 1) : Word :=
  match f with
  | .n => 0
  | .w => BitVec.ofNat 32 n <<< 8
  | .d => (t.setWidth 32 <<< 8) ||| (r.setWidth 32 <<< 9)

/-- The number of bits of a word of the format; R91 shows 0 in those above. -/
def Format.size (f : Format) : Nat :=
  match f with
  | .n => 8
  | .w => 14
  | .d => 10

theorem getLsbD_reserved (f : Format) : ∀ k < 32, f.reserved.getLsbD k = decide (f.size ≤ k) := by
  cases f <;> decide

theorem getLsbD_of_reserved {f : Format} {w : Word} (h : w &&& f.reserved = 0) {k : Nat}
    (hk : k < 32) (hf : f.size ≤ k) : w.getLsbD k = false := by
  have hbit : (w &&& f.reserved).getLsbD k = false := by rw [h]; exact BitVec.getLsbD_zero
  simpa [getLsbD_reserved f k hk, hf] using hbit

/-- A field of a word, put back in its place, is the word's bits there. -/
theorem getLsbD_field (w : Word) (lo len : Nat) {k : Nat} (hk : k < 32) :
    ((w.extractLsb' lo len).setWidth 32 <<< lo).getLsbD k
      = (decide (lo ≤ k ∧ k < lo + len) && w.getLsbD k) := by
  by_cases hlo : lo ≤ k
  · have hadd : lo + (k - lo) = k := by omega
    have hlen : k - lo < len ↔ k < lo + len := by omega
    simp [hk, hlo, hadd, hlen]
  · simp [hlo, show k < lo by omega]

theorem getLsbD_opField (w : Word) {k : Nat} (hk : k < 32) :
    ((opField w).setWidth 32).getLsbD k = (decide (k < 8) && w.getLsbD k) := by
  simpa only [opField, BitVec.shiftLeft_zero, Nat.zero_le, true_and, Nat.zero_add] using
    getLsbD_field w 0 8 hk

/-- The operand bits of a word are its bits between the opcode and the reserved ones. -/
theorem getLsbD_operand (f : Format) (w : Word) {k : Nat} (hk : k < 32) :
    (f.operand (widthField w) (tField w) (rField w)).getLsbD k
      = (decide (8 ≤ k ∧ k < f.size) && w.getLsbD k) := by
  cases f with
  | n =>
    have hempty : ¬(8 ≤ k ∧ k < 8) := by omega
    simp [Format.operand, Format.size, hempty]
  | w =>
    rw [Format.operand, widthField, BitVec.ofNat_toNat]
    exact getLsbD_field w 8 6 hk
  | d =>
    have hsplit : 8 ≤ k ∧ k < 10 ↔ (8 ≤ k ∧ k < 8 + 1) ∨ (9 ≤ k ∧ k < 9 + 1) := by omega
    rw [Format.operand, BitVec.getLsbD_or, tField, rField, getLsbD_field w 8 1 hk,
      getLsbD_field w 9 1 hk, ← Bool.and_or_distrib_right, ← Bool.decide_or, Format.size,
      decide_eq_decide.2 hsplit]

/-- A word without reserved bits is its opcode and its operand bits. -/
theorem word_of_fields {f : Format} {w : Word} (h : w &&& f.reserved = 0) :
    (opField w).setWidth 32 ||| f.operand (widthField w) (tField w) (rField w) = w := by
  apply BitVec.eq_of_getLsbD_eq
  intro k hk
  rw [BitVec.getLsbD_or, getLsbD_opField w hk, getLsbD_operand f w hk]
  by_cases hf : f.size ≤ k
  · simp [getLsbD_of_reserved h hk hf]
  · have hbit : k < 8 ∨ (8 ≤ k ∧ k < f.size) := by omega
    rw [← Bool.and_or_distrib_right, ← Bool.decide_or, decide_eq_true hbit, Bool.true_and]

theorem operandBits_of_instrOf {op : BitVec 8} {n : Nat} {t r : BitVec 1} {i : Instr}
    (h : instrOf op n t r = some i) : i.operandBits = i.format.operand n t r := by
  unfold instrOf at h
  split at h <;> cases h <;> rfl

theorem widthField_lt (w : Word) : widthField w < 64 := (w.extractLsb' 8 6).isLt

/-- Settles O2: the fields the decoder read are those `encode` puts back. -/
theorem decodableWordIsTheCommandsWord : Obligations.DecodableWordIsTheCommandsWord := by
  unfold Obligations.DecodableWordIsTheCommandsWord
  intro w i h
  obtain ⟨hi, hres⟩ := decode_ok h
  obtain ⟨hop, hwidth⟩ := Machine.instrOf_some hi
  constructor
  · rw [encode, ← hop, operandBits_of_instrOf hi, word_of_fields hres]
  · cases hw : i.width with
    | none => simp [Instr.wf, hw]
    | some n => simpa [Instr.wf, hw, ← hwidth n hw] using widthField_lt w

/-! ## The reserved opcodes -/

theorem opField_toNat (w : Word) : (opField w).toNat = w.toNat % 256 := by
  simp [opField]

/-- The opcodes that the map of R93 leaves out are those R101 lists. -/
theorem instrOf_eq_none_iff {op : BitVec 8} {n : Nat} {t r : BitVec 1} :
    instrOf op n t r = none ↔ (op.toNat = 0x00 ∨ (0x07 ≤ op.toNat ∧ op.toNat ≤ 0x0F)
      ∨ (0x14 ≤ op.toNat ∧ op.toNat ≤ 0x1F) ∨ (0x24 ≤ op.toNat ∧ op.toNat ≤ 0x2F)
      ∨ (0x31 ≤ op.toNat ∧ op.toNat ≤ 0x3F) ∨ (0x46 ≤ op.toNat ∧ op.toNat ≤ 0xFF)) := by
  unfold instrOf
  split
  case h_22 =>
    have hop : op.toNat < 256 := op.isLt
    simp only [imp_false, BitVec.toNat_eq, BitVec.toNat_ofNat, true_iff] at *
    omega
  all_goals simp

/-- Settles O3: a word is refused as an opcode where the map of R93 names no command. -/
theorem reservedOpcodesAreThoseListed : Obligations.ReservedOpcodesAreThoseListed := by
  unfold Obligations.ReservedOpcodesAreThoseListed
  intro w
  rw [decode_reservedOpcode_iff, instrOf_eq_none_iff, opField_toNat]

/-- Settles O4: the words are closed, so the decoder is run on each. -/
theorem specWordsDecode : Obligations.SpecWordsDecode := by
  unfold Obligations.SpecWordsDecode
  decide

end Sys2Proof
end

section
/-! SUPPORT. A command attempt that is not accepted (R95 to R98, R100, R101, R252): an ignored write,
a word that is no command, and the first failing check of a command. -/

namespace Sys2Proof.Machine

/-! ## A write to `CMD` -/

section
variable {s : State} {w : Word} {ts : List Turn}

theorem step_writeCmd (hts : s.env.agenda = .hostWrite 0x000 4 w :: ts) :
    step s = ({ s with env := { s.env with agenda := ts } }.record
      (.hostWrite 0x000 w)).writeCmd exec w := by
  rw [step_of_agenda hts]
  rfl

theorem writeCmd_ignored (hw : s.ignoresWord w = true) :
    s.writeCmd exec w = .next s.ignoreCmd := if_pos hw

theorem writeCmd_undecodable {e : DecodeError} (hw : s.ignoresWord w = false)
    (hd : decode w = .error e) : s.writeCmd exec w = .next (s.reject .illegal) := by
  rw [State.writeCmd, if_neg (by rw [hw]; nofun), hd]

/-- R96: the states and words whose write is ignored. -/
theorem ignoresWord_iff : s.ignoresWord w = true ↔ s.status.fsm = .busy ∨ s.status.fsm = .fatal
    ∨ (s.status.fsm = .waitDma ∧ w ≠ 0x30) := by
  unfold State.ignoresWord
  cases s.status.fsm <;> simp

end

/-- Settles O8: the write is recorded, and then rejected. -/
theorem undecodableWordIsRejected : Obligations.UndecodableWordIsRejected := by
  unfold Obligations.UndecodableWordIsRejected
  intro s w ts e hts hw hd
  rw [step_writeCmd hts]
  exact writeCmd_undecodable hw hd

/-- Settles O9: the write is recorded, and then ignored. -/
theorem ignoredCommandSetsLost : Obligations.IgnoredCommandSetsLost := by
  unfold Obligations.IgnoredCommandSetsLost
  intro s w ts hts hf
  rw [step_writeCmd hts]
  exact writeCmd_ignored (ignoresWord_iff.2 hf)

/-! ## Which commands each check concerns -/

section
variable {i : Instr} {s : State} {n : Nat}

theorem acceptedIn_eq (i : Instr) : acceptedIn i =
    if i = .init then .uninit else if i = .abort then .waitDma else .idle := by
  rcases acceptedIn_cases i with ⟨rfl, h⟩ | ⟨rfl, h⟩ | ⟨hinit, habort, h⟩
  · exact h
  · exact h
  · rw [h, if_neg hinit, if_neg habort]

/-- The commands that read the transmit buffer, with their width (R94). -/
theorem readsTxBuffer_iff : i.width = some n ∧ readsTxBuffer i = true ↔
    i = .blkWrite n ∨ i = .blkXfer n ∨ i = .dmaWrite n ∨ i = .dmaXfer n := by
  cases i <;> simp [Instr.width, readsTxBuffer]

/-- The commands that fill the receive buffer, with their width (R94). -/
theorem readsRxBuffer_iff : i.width = some n ∧ readsRxBuffer i = true ↔
    i = .blkRead n ∨ i = .blkXfer n ∨ i = .blkXferIp n ∨ i = .dmaRead n ∨ i = .dmaXfer n
      ∨ i = .dmaXferIp n := by
  cases i <;> simp [Instr.width, readsRxBuffer]

/-- The commands of format W (R93): SET_WIDTH and those with a buffer. -/
theorem width_eq_some_iff : i.width = some n ↔ i = .setWidth n
    ∨ (i.width = some n ∧ readsTxBuffer i = true) ∨ (i.width = some n ∧ readsRxBuffer i = true) := by
  cases i <;> simp [Instr.width, readsTxBuffer, readsRxBuffer]

/-- The commands that use the receive channel (R201). -/
theorem usesRxChannel_iff :
    usesRxChannel i = true ↔ ∃ n, i = .dmaRead n ∨ i = .dmaXfer n ∨ i = .dmaXferIp n := by
  cases i <;> simp [usesRxChannel]

/-- Every DMA command uses the transmit channel (R201). -/
theorem isDma_iff : isDma i = true ↔ (∃ n, i = .dmaWrite n) ∨ usesRxChannel i = true := by
  cases i <;> simp [isDma, usesRxChannel]

/-! ## When each check fails -/

theorem widthIllegal_iff {p : Params} :
    widthIllegal i p = true ↔ ∃ n, i.width = some n ∧ legalWidth p n = false := by
  unfold widthIllegal
  cases i.width <;> simp

theorem channelMissing_iff {x : HostRegs} : channelMissing i x = true ↔
    (isDma i = true ∧ x.txchBound = false) ∨ (usesRxChannel i = true ∧ x.rxchBound = false) := by
  simp [channelMissing]

theorem misaligned_iff {a len : Word} {sz : Nat} :
    misaligned a len sz = true ↔ len ≠ 0 ∧ a.toNat % sz ≠ 0 := by
  simp [misaligned]

theorem bufferMisaligned_iff {x : HostRegs} : bufferMisaligned i x = true ↔ ∃ n,
    ((i.width = some n ∧ readsTxBuffer i = true) ∧ misaligned x.txaddr x.txlen (szOf n) = true)
      ∨ ((i.width = some n ∧ readsRxBuffer i = true)
        ∧ misaligned x.rxaddr x.rxlen (szOf n) = true) := by
  unfold bufferMisaligned
  cases i.width with
  | none => simp
  | some m => simp [exists_or, and_assoc]

/-- The three checks of R97 have one code, -/
theorem checks_illegal (h : s.status.fsm ≠ acceptedIn i ∨ widthIllegal i s.params = true
    ∨ (isDma i = true ∧ s.regs.async = false)) : checks i s = some .illegal := by
  unfold checks
  rcases h with h | h | ⟨hdma, hasync⟩
  · rw [if_pos h]
  · rw [if_pos h, ite_self]
  · simp [hdma, hasync]

/-- and where they hold those of R98 follow (R100). -/
theorem checks_legal (hf : ¬s.status.fsm ≠ acceptedIn i) (hw : ¬widthIllegal i s.params = true)
    (hm : ¬(isDma i = true ∧ s.regs.async = false)) : checks i s =
      if channelMissing i s.regs then some .nochan
      else if bufferMisaligned i s.regs then some .align
      else none := by
  rw [checks, if_neg hf, if_neg hw, if_neg (by simpa using hm)]

theorem exec_rejected {c : ResultCode} (hrun : s.running ≠ some i) (hign : s.ignores i = false)
    (hc : checks i s = some c) : exec i s = .next (s.reject c) := by
  rw [exec_attempt hrun, State.attempt, if_neg (by rw [hign]; nofun), hc]

end

/-- Settles O7: each clause of the statement is a check of the model, and `checks_illegal` and
`checks_legal` give their order. -/
theorem rejectionRecordsTheFirstFailingCheck :
    Obligations.RejectionRecordsTheFirstFailingCheck := by
  unfold Obligations.RejectionRecordsTheFirstFailingCheck
  intro s i hrun hign rejected usesBothChannels usesTxChannel readsTx readsRx badState badWidth
    badMode badChannel badAddress
  have hdma : isDma i = true ↔ usesTxChannel := isDma_iff.trans (or_congr_right usesRxChannel_iff)
  have hstate : s.status.fsm ≠ acceptedIn i ↔ badState := by rw [acceptedIn_eq]
  have hwidth : widthIllegal i s.params = true ↔ badWidth := by
    rw [widthIllegal_iff]
    refine exists_congr fun n => and_congr_left fun _ => ?_
    rw [width_eq_some_iff, readsTxBuffer_iff, readsRxBuffer_iff]
  have hmode : isDma i = true ∧ s.regs.async = false ↔ badMode := and_congr_left fun _ => hdma
  have hchannel : channelMissing i s.regs = true ↔ badChannel := by
    rw [channelMissing_iff, hdma, usesRxChannel_iff]
    rfl
  have haddress : bufferMisaligned i s.regs = true ↔ badAddress := by
    rw [bufferMisaligned_iff]
    refine exists_congr fun n => ?_
    rw [readsTxBuffer_iff, readsRxBuffer_iff, misaligned_iff, misaligned_iff]
  rw [← hstate, ← hwidth, ← hmode, ← hchannel, ← haddress]
  refine ⟨fun h => ?_, fun hf hw hm hc => ?_, fun hf hw hm hc ha => ?_, fun hf hw hm hc ha => ?_⟩
  · exact exec_rejected hrun hign (checks_illegal h)
  · exact exec_rejected hrun hign (by rw [checks_legal hf hw hm, if_pos hc])
  · exact exec_rejected hrun hign (by rw [checks_legal hf hw hm, if_neg hc, if_pos ha])
  · exact exec_ready ⟨hrun, hign, by rw [checks_legal hf hw hm, if_neg hc, if_neg ha]⟩

end Sys2Proof.Machine
end

section
/-! SUPPORT. A command run alone (R33, R97, R99, R253): its attempt, then its own lines one after
another. -/

namespace Sys2Proof.Machine

/-- A journal that has grown by events is a trace that has grown by them (R36). -/
theorem trace_of_journal {s t : State} {es : List Event}
    (h : t.journal = s.journal ++ es.map .event) : t.trace = s.trace ++ es := by
  rw [State.trace, h, List.filterMap_append, List.filterMap_map]
  exact congrArg (s.trace ++ ·) List.filterMap_some

section
variable {s t : State} {i : Instr} {l l' : Label}

theorem at_accept (s : State) (i : Instr) : At (s.accept i) i (firstLabel i) :=
  at_iff.2 ⟨.inl rfl, rfl, instr_accept s.latch i⟩

/-- A line that keeps the latches and `STATUS` leads to its next label. -/
theorem at_goto (h : At s i l) (hk : t.latch = s.latch) (hf : t.status = s.status) (l' : Label) :
    At (t.goto l') i l' := by
  obtain ⟨hfsm, -, hlatch⟩ := at_iff.1 h
  exact at_iff.2 ⟨by simpa [hf] using hfsm, rfl, by simpa [hk] using hlatch⟩

theorem execN_ready (h : Ready s i) (k : Nat) : execN i (k + 1) s = execN i k (s.accept i) := by
  rw [execN, exec_ready h]

theorem execN_at (h : At s i l) (hp : progOf i l s = some t) (k : Nat) :
    execN i (k + 1) s = execN i k t := by
  rw [execN, exec_at h hp]

theorem execN_complete (h : At s i l) (hne : i ≠ .deinit) {c : ResultCode}
    (hp : progOf i l s = some (s.complete c)) : execN i 1 s = .next (s.endedWith c .idle) := by
  obtain ⟨-, -, hlatch⟩ := at_iff.1 h
  rw [execN_at h hp, execN, complete_eq_endedWith hlatch hne]

/-- A command of one line and its completion. -/
theorem execN_oneLine (h : Ready s i) (hne : i ≠ .deinit)
    (hp : progOf i (firstLabel i) (s.accept i) = some (t.goto l'))
    (hk : t.latch = (s.accept i).latch) (hf : t.status = (s.accept i).status)
    (hc : progOf i l' (t.goto l') = some ((t.goto l').complete .ok)) :
    execN i 3 s = .next (t.endedWith .ok .idle) := by
  have hend : At (t.goto l') i l' := at_goto (at_accept s i) hk hf l'
  rw [execN_ready h, execN_at (at_accept s i) hp, execN_complete hend hne hc]
  rfl

end

/-! ## From a line to the end -/

/-- Wherever `i` has `line` for its next line it ends in the state that `fin` gives, which does not
depend on the label of that line. -/
structure Ends (i : Instr) (line fin : State → State) : Prop where
  run : ∀ s l, At s i l → progOf i l s = some (line s) → ∃ k, execN i k s = .next (fin s)
  anyLabel : ∀ s l, fin (s.goto l) = fin s

section
variable {i : Instr} {line next fin fin' : State → State}

theorem Ends.of_ready {s : State} (h : Ends i line fin) (hr : Ready s i)
    (hp : progOf i (firstLabel i) (s.accept i) = some (line (s.accept i))) :
    ∃ k, execN i k s = .next (fin (s.accept i)) := by
  obtain ⟨k, hk⟩ := h.run _ _ (at_accept s i) hp
  exact ⟨k + 1, by rw [execN_ready hr, hk]⟩

/-- The command's last line. -/
theorem Ends.last (i : Instr) (hl : ∀ s l, line (s.goto l) = line s) : Ends i line line where
  run _ _ hat hp := ⟨1, by rw [execN_at hat hp, execN]⟩
  anyLabel := hl

/-- A line that goes on to another. -/
theorem Ends.after (h : Ends i next fin) (op : State → State) (l' : Label)
    (hop : ∀ s l, (op s).latch = s.latch ∧ (op s).status = s.status ∧ op (s.goto l) = (op s).goto l)
    (hn : ∀ s, progOf i l' s = some (next s)) :
    Ends i (fun s => (op s).goto l') (fun s => fin (op s)) where
  run s l hat hp := by
    obtain ⟨hlatch, hstatus, -⟩ := hop s l
    obtain ⟨k, hk⟩ := h.run _ l' (at_goto hat hlatch hstatus l') (hn _)
    exact ⟨k + 1, by rw [execN_at hat hp, hk, h.anyLabel]⟩
  anyLabel s l := by
    obtain ⟨-, -, hlabel⟩ := hop s l
    rw [hlabel, h.anyLabel]

/-- A guarded line, and the line that runs in its place (R11). -/
theorem Ends.ite (h : Ends i line fin) (h' : Ends i next fin') (c : State → Prop)
    [DecidablePred c] (hc : ∀ s l, c (s.goto l) ↔ c s) :
    Ends i (fun s => if c s then line s else next s) (fun s => if c s then fin s else fin' s) where
  run s l hat hp := by
    by_cases hs : c s
    · simp only [if_pos hs] at hp ⊢
      exact h.run s l hat hp
    · simp only [if_neg hs] at hp ⊢
      exact h'.run s l hat hp
  anyLabel s l := by simp only [hc, h.anyLabel, h'.anyLabel]

theorem Ends.congr (h : Ends i line fin) (he : ∀ s, fin s = fin' s) : Ends i line fin' :=
  (funext he : fin = fin') ▸ h

end

/-! ## FLUSH and the field commands -/

/-- Settles O43: FLUSH completes at its first line, the others after one field write. -/
theorem flushAndFieldCommands : Obligations.FlushAndFieldCommands := by
  unfold Obligations.FlushAndFieldCommands
  intro s tb rb done wrote
  refine ⟨fun h => ?_, fun h => ?_, fun h => ?_, fun h => ?_⟩
  · rw [execN_ready h, execN_complete (at_accept s .flush) nofun rfl]
    rfl
  · exact execN_oneLine h nofun rfl rfl rfl rfl
  · exact execN_oneLine h nofun rfl rfl rfl rfl
  · exact execN_oneLine h nofun rfl rfl rfl rfl

end Sys2Proof.Machine
end

section
/-! SUPPORT. The divisor search and the achieved frequency (R120 to R122, R127, R129). -/

namespace Sys2Proof.Machine

/-- The least ratio that has the divisor (R120). -/
def leastRatio : Divisor → Nat
  | .d2 => 0
  | .d4 => 3
  | .d8 => 6
  | .d16 => 12
  | .d32 => 24
  | .d64 => 40
  | .d128 => 96
  | .d256 => 192

theorem leastRatio_le (r : Nat) : leastRatio (divisorFor r) ≤ r := by
  grind [divisorFor, leastRatio]

theorem le_divisorFor {d : Divisor} {r : Nat} (h : leastRatio d ≤ r) :
    divisorNat d ≤ divisorNat (divisorFor r) := by
  cases d <;> grind [divisorFor, divisorNat, leastRatio]

/-- The divisor does not fall as the ratio rises (R129). -/
theorem divisorFor_mono {q r : Nat} (h : q ≤ r) :
    divisorNat (divisorFor q) ≤ divisorNat (divisorFor r) :=
  le_divisorFor ((leastRatio_le q).trans h)

theorem divisorNat_pos (d : Divisor) : 0 < divisorNat d := by cases d <;> decide

/-- Every divisor is the divisor of itself as a ratio. -/
theorem divisorFor_divisorNat (d : Divisor) : divisorFor (divisorNat d) = d := by cases d <;> rfl

/-- The divisor exceeds two thirds of every ratio up to 255 (R127). -/
theorem divisorFor_bound {r : Nat} (h : r ≤ 255) :
    2 * (r + 1) ≤ 3 * divisorNat (divisorFor r) := by
  grind [divisorFor, divisorNat]

theorem toNat_pos {f : Word} (h : f ≠ 0) : 0 < f.toNat :=
  Nat.pos_of_ne_zero fun hz => h (BitVec.eq_of_toNat_eq hz)

theorem computeBR_fatal {k f : Word} (h : f = 0 ∨ k.toNat < f.toNat) :
    computeBR k f = .error (if f = 0 then .freqZero else .freqAboveClock) := by
  unfold computeBR
  split
  · rfl
  · next hf => rw [if_pos (Nat.div_eq_of_lt (h.resolve_left hf))]

theorem computeBR_eq_ok_iff {k f : Word} {d : Divisor} : computeBR k f = .ok d ↔
    0 < f.toNat ∧ f.toNat ≤ k.toNat ∧ divisorFor (k.toNat / f.toNat) = d := by
  by_cases h : f = 0 ∨ k.toNat < f.toNat
  · rw [computeBR_fatal h]
    refine ⟨nofun, fun ⟨hpos, hle, _⟩ => ?_⟩
    rcases h with rfl | hlt
    · exact absurd hpos (Nat.lt_irrefl 0)
    · exact absurd hle (Nat.not_le.2 hlt)
  · obtain ⟨h0, hge⟩ := not_or.1 h
    have hpos : 0 < f.toNat := toNat_pos h0
    have hratio : k.toNat / f.toNat ≠ 0 := (Nat.div_pos (Nat.not_lt.1 hge) hpos).ne'
    rw [computeBR, if_neg h0, if_neg hratio]
    simp [hpos, Nat.not_lt.1 hge]

theorem computeFrequency_toNat (k : Word) (d : Divisor) :
    (computeFrequency k d).toNat = k.toNat / divisorNat d :=
  Nat.mod_eq_of_lt (lt_of_le_of_lt (Nat.div_le_self _ _) k.isLt)

/-- Settles O16: `computeBR_fatal` and `computeBR_eq_ok_iff`, and each range of `divisorFor`. -/
theorem divisorOfEveryRatio : Obligations.DivisorOfEveryRatio := by
  unfold Obligations.DivisorOfEveryRatio
  intro k f
  refine ⟨fun h => ?_, fun h0 hlt => ?_, fun h0 hle => ?_⟩
  · rw [computeBR_fatal (.inl h), if_pos h]
  · rw [computeBR_fatal (.inr hlt), if_neg h0]
  · intro r
    refine ⟨divisorFor r, computeBR_eq_ok_iff.2 ⟨toNat_pos h0, hle, rfl⟩, ?_⟩
    and_intros <;> grind [divisorFor]

/-- Settles O17: the ratio falls as the request rises, the divisor with it (`divisorFor_mono`), and
a smaller divisor divides the clock into more. -/
theorem achievedFrequencyIsMonotone : Obligations.AchievedFrequencyIsMonotone := by
  unfold Obligations.AchievedFrequencyIsMonotone
  intro k f1 f2 e1 e2 hlt hle h1 h2
  obtain ⟨hpos1, -, rfl⟩ := computeBR_eq_ok_iff.1 h1
  obtain ⟨hpos2, -, rfl⟩ := computeBR_eq_ok_iff.1 h2
  have hratio : k.toNat / f2.toNat ≤ k.toNat / f1.toNat := Nat.div_le_div_left hlt.le hpos1
  have hdivisor := divisorFor_mono hratio
  refine ⟨Nat.div_pos hle hpos2, hratio, hdivisor, computeFrequency_toNat _ _, ?_⟩
  rw [computeFrequency_toNat, computeFrequency_toNat]
  exact Nat.div_le_div_left hdivisor (divisorNat_pos _)

/-- Settles O18: with `r = K / F`, `K < (r + 1) * F`, and `divisorFor_bound` bounds `r + 1`. -/
theorem achievedFrequencyBound : Obligations.AchievedFrequencyBound := by
  unfold Obligations.AchievedFrequencyBound
  intro k f d h hr
  obtain ⟨hpos, -, rfl⟩ := computeBR_eq_ok_iff.1 h
  rw [computeFrequency_toNat]
  have hbound := divisorFor_bound hr
  have hD := divisorNat_pos (divisorFor (k.toNat / f.toNat))
  generalize divisorNat (divisorFor (k.toNat / f.toNat)) = D at hbound hD ⊢
  refine lt_of_mul_lt_mul_right (a := D) ?_ (Nat.zero_le D)
  calc 2 * (k.toNat / D) * D
      = 2 * (k.toNat / D * D) := Nat.mul_assoc _ _ _
    _ ≤ 2 * k.toNat := Nat.mul_le_mul_left 2 (Nat.div_mul_le_self _ _)
    _ < 2 * (f.toNat * (k.toNat / f.toNat + 1)) :=
      Nat.mul_lt_mul_of_pos_left (Nat.lt_mul_div_succ _ hpos) (by decide)
    _ ≤ 3 * f.toNat * D := by nlinarith

end Sys2Proof.Machine
end

section
/-! SUPPORT. INIT, DEINIT, SET_CONFIG and GET_CONFIG (R121 to R131), whole. -/

namespace Sys2Proof.Machine

/-! ## The configuration fields -/

/-- The state that keeps the divisor `d` (R121). -/
def State.withDivisor (s : State) (d : Divisor) : State :=
  { s with vars := { s.vars with dv := d } }

theorem keepDivisor_ok {s : State} {d : Divisor} (h : computeBR s.regs.kclk s.regs.freq = .ok d)
    (l : Label) : keepDivisor s l = (s.withDivisor d).goto l := by
  simp only [keepDivisor, h]
  rfl

theorem keepDivisor_fatal {s : State} (h : s.regs.freq = 0 ∨ s.regs.kclk.toNat < s.regs.freq.toNat)
    (l : Label) : keepDivisor s l
      = s.raiseFatal (if s.regs.freq = 0 then .freqZero else .freqAboveClock) := by
  simp only [keepDivisor, computeBR_fatal h]

theorem code_mem_divisors (d : Divisor) : d ∈ divisors := by cases d <;> decide

/-- An injective `BRENC` is undone by the lookup of R131. -/
theorem divisorOfCode_code {b : BrEnc} (hb : ∀ d e, b.code d = b.code e → d = e) (d : Divisor) :
    divisorOfCode b (b.code d) = d := by
  unfold divisorOfCode
  split
  · next e he => exact hb e d (by simpa using List.find?_some he)
  · next hn => simpa using List.find?_eq_none.1 hn d (code_mem_divisors d)

/-- The three bits of `CFG`, put together again (R27, R32). -/
theorem append_cfg_bits {w : Nat} (hi : BitVec w) (c : BitVec 3) :
    hi ++ c.extractLsb' 2 1 ++ c.extractLsb' 1 1 ++ c.extractLsb' 0 1 = hi ++ c := by
  have hbits : c.extractLsb' 2 1 ++ c.extractLsb' 1 1 ++ c.extractLsb' 0 1 = c := by
    decide +revert
  conv_rhs => rw [← hbits]
  simp [BitVec.append_assoc]

/-- `RDCFG` of a control image that holds the mode of `x` and the divisor `d` (R125). -/
theorem rdcfgWord_of_fields {p : Params} {c : Ctl} {x : HostRegs} {d : Divisor} (hp : ParamsOk p)
    (hcpol : c.cpol = x.cpol ^^^ p.modeEnc.invCpol) (hcpha : c.cpha = x.cpha ^^^ p.modeEnc.invCpha)
    (hlsbf : c.lsbf = x.lsbf ^^^ p.modeEnc.invLsbf) (hbr : c.br = p.brEnc.code d) :
    rdcfgWord p c = BitVec.ofNat 16 (divisorNat d) ++ 0#13 ++ x.cfg := by
  have hinv (a b : BitVec 1) : a ^^^ b ^^^ b = a := by
    rw [BitVec.xor_assoc, BitVec.xor_self, BitVec.xor_zero]
  rw [rdcfgWord, hcpol, hcpha, hlsbf, hbr, divisorOfCode_code hp.brEnc, hinv, hinv, hinv]
  exact append_cfg_bits _ _

/-- A request that a divisor of the clock meets exactly is achieved (R125). -/
theorem computeFrequency_exact {k f : Word} {d e : Divisor} (h : computeBR k f = .ok d)
    (he : f.toNat * divisorNat e = k.toNat) : computeFrequency k d = f := by
  obtain ⟨hpos, -, rfl⟩ := computeBR_eq_ok_iff.1 h
  apply BitVec.eq_of_toNat_eq
  rw [computeFrequency_toNat, ← he, Nat.mul_div_cancel_left _ hpos, divisorFor_divisorNat,
    Nat.mul_div_cancel _ (divisorNat_pos e)]

/-! ## SET_CONFIG and GET_CONFIG -/

/-- SET_CONFIG from S1 on: the two field writes, and OK. -/
theorem execN_setConfig_s1 {s : State} (h1 : At s .setConfig (.setConfig .s1)) :
    execN .setConfig 3 s = .next
      ((s.fieldWrite (modeFields s.params s.regs)).writeDivisor.endedWith .ok .idle) := by
  let written := (s.fieldWrite (modeFields s.params s.regs)).goto (.setConfig .s2)
  have h2 : At written .setConfig (.setConfig .s2) := at_goto h1 rfl rfl _
  have h3 : At (written.writeDivisor.goto (.setConfig .s3)) .setConfig _ := at_goto h2 rfl rfl _
  exact (execN_at h1 rfl 2).trans ((execN_at h2 rfl 1).trans (execN_complete h3 nofun rfl))

/-- Settles O13: the divisor is kept at S0, and `execN_setConfig_s1` says the rest. -/
theorem setConfigWritesModeThenDivisor : Obligations.SetConfigWritesModeThenDivisor := by
  unfold Obligations.SetConfigWritesModeThenDivisor
  intro s d hr hd mode
  have h0 := at_accept s .setConfig
  have hkeep := keepDivisor_ok (s := s.accept .setConfig) hd (.setConfig .s1)
  rw [execN_ready hr, execN_at h0 (congrArg some hkeep), List.append_cons]
  exact execN_setConfig_s1 (at_goto h0 rfl rfl _)

/-- Settles O15: the two lines of the micro-program. -/
theorem getConfigReadsTheFields : Obligations.GetConfigReadsTheFields := by
  unfold Obligations.GetConfigReadsTheFields
  refine fun s => ⟨fun hat => exec_at hat rfl, fun hat => ?_⟩
  obtain ⟨-, -, hlatch⟩ := at_iff.1 hat
  rw [exec_at hat rfl, ← complete_eq_endedWith hlatch nofun]
  rfl

theorem ready_getConfig {s : State} (h : s.status.fsm = .idle) : Ready s .getConfig := by
  refine ⟨fun hrun => ?_, by rw [State.ignores, h], by rw [checks, h]; rfl⟩
  obtain ⟨hfsm, -⟩ := running_eq_some.1 hrun
  simp [h] at hfsm

/-- Settles O14: SET_CONFIG ends as O13 says, and GET_CONFIG undoes the encodings. -/
theorem configurationRoundTrip : Obligations.ConfigurationRoundTrip := by
  unfold Obligations.ConfigurationRoundTrip
  intro s d hp hr hd
  have hset := setConfigWritesModeThenDivisor s d hr hd
  have hcode := divisorOfCode_code hp.brEnc d
  refine ⟨_, _, hset, execN_oneLine (ready_getConfig rfl) nofun rfl rfl rfl rfl, rfl, ?_,
    fun e he => ?_, rfl, rfl, rfl, trace_of_journal rfl⟩
  · refine congrArg₂ (fun a b => { s.regs with rdcfg := a, rdfreq := b }) ?_
      (congrArg (computeFrequency _) hcode)
    exact rdcfgWord_of_fields hp rfl rfl rfl rfl
  · exact (congrArg (computeFrequency _) hcode).trans (computeFrequency_exact hd he)

/-! ## DEINIT -/

/-- Whether a pin is owned (R29). -/
def HostRegs.owns (x : HostRegs) : Pin → Bool
  | .sck => x.ownedPins.sck
  | .mosi => x.ownedPins.mosi
  | .miso => x.ownedPins.miso

/-- The state in which DEINIT ends where `ps` are the pins it has still to visit (R126). -/
def State.released (s : State) (ps : List Pin) : State :=
  deinitDi4 ({ s with
    journal := s.journal ++ (ps.filter s.regs.owns).map fun p => Entry.event (.pd p) }.clkDisable)

/-- A line of DEINIT that disconnects the pin `p` if it is owned. -/
theorem deinit_visits (p : Pin) (l' : Label) {ps : List Pin} {next : State → State}
    (h : Ends .deinit next (·.released ps)) (hn : ∀ s, deinitProg l' s = some (next s)) :
    Ends .deinit (fun s => if s.regs.owns p then (s.pinDisconnect p).goto l' else next s)
      (·.released (p :: ps)) := by
  have howned := h.after (·.pinDisconnect p) l' (fun _ _ => ⟨rfl, rfl, rfl⟩) hn
  refine (howned.ite h (fun s => s.regs.owns p = true) fun _ _ => .rfl).congr fun s => ?_
  split
  · next hc =>
    dsimp only [State.released]
    rw [List.filter_cons_of_pos hc, List.map_cons, List.append_cons]
    rfl
  · next hc =>
    dsimp only [State.released]
    rw [List.filter_cons_of_neg hc]

theorem deinitDi0_ends : Ends .deinit deinitDi0 (·.released [.sck, .mosi, .miso]) := by
  have h4 : Ends .deinit deinitDi4 deinitDi4 := .last _ fun _ _ => rfl
  have h3 : Ends .deinit deinitDi3 (·.released []) :=
    (h4.after State.clkDisable (.deinit .di4) (fun _ _ => ⟨rfl, rfl, rfl⟩) fun _ => rfl).congr
      fun s => by
        rw [State.released, List.filter_nil, List.map_nil, List.append_nil]
  have h2 : Ends .deinit deinitDi2 (·.released [.miso]) :=
    deinit_visits .miso (.deinit .di3) h3 fun _ => rfl
  have h1 : Ends .deinit deinitDi1 (·.released [.mosi, .miso]) :=
    deinit_visits .mosi (.deinit .di2) h2 fun _ => rfl
  exact deinit_visits .sck (.deinit .di1) h1 fun _ => rfl

theorem map_filter_cons {α β : Type} (f : α → β) (p : α → Bool) (a : α) (as : List α) :
    ((a :: as).filter p).map f = (if p a then [f a] else []) ++ (as.filter p).map f := by
  cases h : p a <;> simp [h]

theorem released_trace (s : State) (ps : List Pin) :
    (s.released ps).trace = s.trace ++ ((ps.filter s.regs.owns).map Event.pd ++ [Event.cd]) := by
  apply trace_of_journal
  simp [State.released, deinitDi4]

/-- Settles O12: DEINIT visits the three pins in order (`deinitDi0_ends`). -/
theorem deinitReleasesTheInstance : Obligations.DeinitReleasesTheInstance := by
  unfold Obligations.DeinitReleasesTheInstance
  intro s hr
  obtain ⟨k, hk⟩ := deinitDi0_ends.of_ready hr rfl
  refine ⟨k, _, hk, rfl, rfl, rfl, rfl, rfl, rfl, ?_, rfl, rfl, rfl, rfl, rfl, rfl, rfl, rfl⟩
  rw [released_trace, map_filter_cons, map_filter_cons, map_filter_cons, List.filter_nil,
    List.map_nil, List.append_nil]
  simp only [List.append_assoc]
  rfl

/-! ## INIT -/

/-- INIT up to the divisor search of I1 (R123, R124). -/
theorem execN_init_i1 {s : State} (hr : Ready s .init) (k : Nat) : execN .init (k + 3) s =
    execN .init k (keepDivisor (initI0 (s.accept .init)).clkFreq (.init .i2)) := by
  have h0 := at_accept s .init
  have h1 : At (initI0 (s.accept .init)) .init (.init .i1) := at_goto h0 rfl rfl _
  rw [execN_ready hr, execN_at h0 rfl]
  exact execN_at h1 rfl k

/-- The two events of I0 and I1. -/
theorem clkFreq_trace (s : State) :
    (initI0 s).clkFreq.trace = s.trace ++ [Event.cer, Event.cf s.env.nextClock] :=
  trace_of_journal (List.append_cons ..).symm

/-- Settles O11: the divisor search raises the fatal cause (`keepDivisor_fatal`). -/
theorem overRequestHaltsTheBlock : Obligations.OverRequestHaltsTheBlock := by
  unfold Obligations.OverRequestHaltsTheBlock
  refine fun s => ⟨fun hr hf => ?_,
    fun hat hf => exec_at hat (congrArg some (keepDivisor_fatal hf _))⟩
  have hfatal := keepDivisor_fatal (s := (initI0 (s.accept .init)).clkFreq) hf (.init .i2)
  exact ⟨_, (execN_init_i1 hr 0).trans (congrArg _ hfatal), rfl, rfl, rfl, rfl, rfl, rfl,
    clkFreq_trace (s.accept .init), rfl⟩

/-- One group of `INIT_EXTRA` as assignments (R123 I3). -/
def extraFields (g : List (Nat × Word)) : List FieldSet := g.map fun f => .extra f.1 f.2

/-- The state after the groups `gs` of `INIT_EXTRA` are written. -/
def State.groupsWritten (s : State) (gs : List (List (Nat × Word))) : State :=
  { s with
    ctl := gs.foldl (fun c g => assignFields c (extraFields g)) s.ctl
    journal := s.journal ++ (gs.map fun g => Event.fw (extraFields g)).map Entry.event }

theorem groupsWritten_nil (s : State) : s.groupsWritten [] = s := by
  rw [State.groupsWritten, List.map_nil, List.map_nil, List.append_nil]
  rfl

theorem groupsWritten_cons (s : State) (g : List (Nat × Word)) (gs : List (List (Nat × Word))) :
    s.groupsWritten (g :: gs) = (s.fieldWrite (extraFields g)).groupsWritten gs := by
  rw [State.groupsWritten, List.map_cons, List.map_cons, List.append_cons]
  rfl

theorem groupsWritten_goto (s : State) (l : Label) (gs : List (List (Nat × Word))) :
    (s.goto l).groupsWritten gs = (s.groupsWritten gs).goto l := rfl

/-- The state in which INIT ends from I4 on. -/
def State.constructed (s : State) : State :=
  ((((s.fieldWrite (modeFields s.params s.regs)).writeDivisor.fieldWrite
    (widthFields s.params 8)).fieldWrite [.en 1]).setCurWidth 8).complete .ok

theorem initI4_ends : Ends .init initI4 State.constructed := by
  have h8 : Ends .init (·.complete .ok) (·.complete .ok) := .last _ fun _ _ => rfl
  have h7 := h8.after (fun s => (s.fieldWrite [.en 1]).setCurWidth 8) (.init .i8)
    (fun _ _ => ⟨rfl, rfl, rfl⟩) fun _ => rfl
  have h6 := h7.after (fun s => s.fieldWrite (widthFields s.params 8)) (.init .i7)
    (fun _ _ => ⟨rfl, rfl, rfl⟩) fun _ => rfl
  have h5 := h6.after State.writeDivisor (.init .i6)
    (fun _ _ => ⟨rfl, rfl, rfl⟩) fun _ => rfl
  exact h5.after (fun s => s.fieldWrite (modeFields s.params s.regs)) (.init .i5)
    (fun _ _ => ⟨rfl, rfl, rfl⟩) fun _ => rfl

/-- From I3 on INIT writes the groups that are left, one a step, whatever their number. -/
theorem initI3_ends (g : Nat) : Ends .init (initI3 g)
    fun s => (s.groupsWritten (s.params.initExtra.drop g)).constructed where
  run s l hat hp := by
    generalize hgs : s.params.initExtra.drop g = gs
    induction gs generalizing s l g with
    | nil =>
      have hnone : s.params.initExtra[g]? = none := by simpa using hgs
      rw [initI3, hnone] at hp
      rw [groupsWritten_nil]
      exact initI4_ends.run s l hat hp
    | cons grp gs ih =>
      have hsome : s.params.initExtra[g]? = some grp := by
        rw [← List.head?_drop, hgs, List.head?_cons]
      have hrest : s.params.initExtra.drop (g + 1) = gs := by
        rw [← List.tail_drop, hgs, List.tail_cons]
      rw [initI3, hsome] at hp
      obtain ⟨k, hk⟩ := ih (g + 1) ((s.fieldWrite (extraFields grp)).goto (.init (.i3 (g + 1)))) _
        (at_goto hat rfl rfl _) rfl hrest
      rw [groupsWritten_goto, initI4_ends.anyLabel] at hk
      exact ⟨k + 1, by rw [execN_at hat hp, groupsWritten_cons]; exact hk⟩
  anyLabel s l := by rw [groupsWritten_goto, initI4_ends.anyLabel, goto_params]

/-- The event of I2, on GEN3 only. -/
def ifcrEvents (p : Params) : List Event := if p.gen = .gen3 then [.rwIfcr p.ifcrInit] else []

/-- The state in which INIT ends from I2 on. -/
def State.initialized (s : State) : State :=
  ({ s with journal := s.journal ++ (ifcrEvents s.params).map Entry.event }.groupsWritten
    s.params.initExtra).constructed

theorem initI2_ends : Ends .init initI2 State.initialized := by
  have hgen3 := (initI3_ends 0).after (fun s => s.regWriteIfcr s.params.ifcrInit) (.init (.i3 0))
    (fun _ _ => ⟨rfl, rfl, rfl⟩) fun _ => rfl
  refine (hgen3.ite (initI3_ends 0) (·.params.gen = .gen3) fun _ _ => .rfl).congr fun s => ?_
  rw [State.initialized, ifcrEvents]
  split
  · rfl
  · rw [List.map_nil, List.append_nil]
    rfl

/-- The width fields are none of the others that INIT writes. -/
theorem constructed_ctl (s : State) :
    s.constructed.ctl = { assignFields s.ctl (widthFields s.params 8) with
      cpol := s.regs.cpol ^^^ s.params.modeEnc.invCpol
      cpha := s.regs.cpha ^^^ s.params.modeEnc.invCpha
      lsbf := s.regs.lsbf ^^^ s.params.modeEnc.invLsbf
      br := s.params.brEnc.code s.vars.dv
      en := 1 } := by
  change assignFields (assignFields (assignFields (assignFields s.ctl (modeFields s.params s.regs))
    [.br (s.params.brEnc.code s.vars.dv)]) (widthFields s.params 8)) [.en 1] = _
  unfold widthFields
  split <;> rfl

theorem initialized_frame (s : State) : s.initialized.mem = s.mem ∧ s.initialized.params = s.params
    ∧ s.initialized.txch = s.txch ∧ s.initialized.rxch = s.rxch := by
  simp [State.initialized, State.constructed, State.groupsWritten, State.writeDivisor]

theorem initialized_trace (s : State) : s.initialized.trace = s.trace
    ++ (ifcrEvents s.params ++ s.params.initExtra.map (fun g => Event.fw (extraFields g))
      ++ [Event.fw (modeFields s.params s.regs), .fw [.br (s.params.brEnc.code s.vars.dv)],
            .fw (widthFields s.params 8), .fw [.en 1]]) := by
  apply trace_of_journal
  simp [State.initialized, State.constructed, State.groupsWritten, State.writeDivisor]

/-- Settles O10: `execN_init_i1`, and the rest of the lines by `initI2_ends`. -/
theorem initConstructsTheInstance : Obligations.InitConstructsTheInstance := by
  unfold Obligations.InitConstructsTheInstance
  intro s d hr hd
  have hkeep := keepDivisor_ok (s := (initI0 (s.accept .init)).clkFreq) hd (.init .i2)
  have h1 : At (initI0 (s.accept .init)) .init (.init .i1) := at_goto (at_accept s .init) rfl rfl _
  have h2 := at_goto (t := (initI0 (s.accept .init)).clkFreq.withDivisor d) h1 rfl rfl (.init .i2)
  obtain ⟨k, hk⟩ := initI2_ends.run _ _ h2 rfl
  rw [initI2_ends.anyLabel, ← hkeep, ← execN_init_i1 hr] at hk
  obtain ⟨hmem, hparams, htx, hrx⟩ :=
    initialized_frame ((initI0 (s.accept .init)).clkFreq.withDivisor d)
  refine ⟨k + 3, _, hk, rfl, rfl, rfl, rfl, rfl, rfl, ?_, ?_, hmem, hparams, htx, hrx,
    rfl, rfl, rfl⟩
  · rw [State.initialized, constructed_ctl]
    rfl
  · have htrace : ((initI0 (s.accept .init)).clkFreq.withDivisor d).trace
        = s.trace ++ [Event.cer, .cf s.env.nextClock] := clkFreq_trace (s.accept .init)
    rw [initialized_trace, htrace, ← List.append_assoc, ← List.append_assoc]
    rfl

end Sys2Proof.Machine
end

section
/-! SUPPORT. Word width (R12, R150 to R160): the legal widths, the width change in all its callers,
and SET_WIDTH whole. -/

namespace Sys2Proof.Machine

/-! ## Legal widths and sizes -/

theorem legalWidth_gen1 {p : Params} (hg : p.gen = .gen1) (n : Nat) :
    legalWidth p n = true ↔ n = 8 ∨ n = 16 := by simp [legalWidth, hg]

theorem legalWidth_gen2 {p : Params} (hg : p.gen = .gen2) (n : Nat) :
    legalWidth p n = true ↔ p.wGen2Min ≤ n ∧ n ≤ p.wGen2Max := by simp [legalWidth, hg]

theorem legalWidth_gen3 {p : Params} (hg : p.gen = .gen3) (n : Nat) :
    legalWidth p n = true ↔ 4 ≤ n ∧ n ≤ 32 := by simp [legalWidth, hg]

theorem szOf_byte {n : Nat} (h : n ≤ 8) : szOf n = 1 := if_pos h

theorem szOf_half {n : Nat} (h : 9 ≤ n) (h' : n ≤ 16) : szOf n = 2 := by
  rw [szOf, if_neg (by omega), if_pos h']

theorem szOf_word {n : Nat} (h : 17 ≤ n) : szOf n = 4 := by
  rw [szOf, if_neg (by omega), if_neg (by omega)]

/-- Settles O19: the legal widths by generation, the size by range. -/
theorem legalWidthsAndSizes : Obligations.LegalWidthsAndSizes := by
  unfold Obligations.LegalWidthsAndSizes
  exact fun p n => ⟨fun hg => legalWidth_gen1 hg n, fun hg => legalWidth_gen2 hg n,
    fun hg => legalWidth_gen3 hg n, fun _ h => szOf_byte h, szOf_half, fun h _ => szOf_word h⟩

/-! ## The steps of the width change -/

section
variable {wrap : WidthLabel → Label} {ret : Label} {cont : State → State} {s : State}

/-- To another width the width change starts (R155). -/
theorem setWordWidth_start (h : s.latch.n ≠ s.curWidth) :
    setWordWidth wrap ret cont .w0 s = widthStart wrap s := if_neg h

/-- GEN1 and GEN2 clear EN at once (R156, R157). -/
theorem widthStart_disables (hg : s.params.gen ≠ .gen3) : ∃ w, (w = .w11 ∨ w = .w21)
    ∧ widthStart wrap s = (s.fieldWrite [.en 0]).goto (wrap w) := by
  unfold widthStart
  cases h : s.params.gen with
  | gen1 => exact ⟨.w11, .inl rfl, rfl⟩
  | gen2 => exact ⟨.w21, .inr rfl, rfl⟩
  | gen3 => exact absurd h hg

/-- GEN3 suspends first (R158). -/
theorem widthStart_suspends (hg : s.params.gen = .gen3) :
    widthStart wrap s = (s.fieldWrite [.susp 1]).goto (wrap .w31) := by
  simp only [widthStart, hg]

/-- W3.1's spin ends with a sample that shows transfer complete. -/
theorem widthSpin_complete (h : s.coming.tc = true) :
    widthSpin wrap s = s.statusSample.goto (wrap .w32) := by
  rw [widthSpin, if_pos h]

/-- On GEN3 a sample keeps the peripheral's transfer-complete flag (R43). -/
theorem coming_tc (hg : s.params.gen = .gen3) : s.coming.tc = s.env.nextSample.tc := by
  rw [State.coming, hg, sampleOf]

end

/-- Every DMA command runs the DMA engine, with a transfer of its own. -/
theorem progOf_dma {i : Instr} (hi : isDma i = true) :
    ∃ d, ∀ l s, progOf i (.dma l) s = some (dmaStep d l s) := by
  cases i with
  | dmaWrite n => exact ⟨dmaWriteSpec, fun _ _ => rfl⟩
  | dmaRead n => exact ⟨dmaReadSpec, fun _ _ => rfl⟩
  | dmaXfer n => exact ⟨dmaXferSpec, fun _ _ => rfl⟩
  | dmaXferIp n => exact ⟨dmaXferIpSpec, fun _ _ => rfl⟩
  | _ => cases hi

/-- Settles O22: each caller runs `setWordWidth` at its labels, whose lines are the steps. -/
theorem widthChangeSteps : Obligations.WidthChangeSteps := by
  unfold Obligations.WidthChangeSteps
  intro s i wrap ret hcaller fields disabled widthWritten suspended enabled
  obtain ⟨cont, hprog⟩ : ∃ cont, ∀ w,
      progOf i (wrap w) s = some (setWordWidth wrap ret cont w s) := by
    rcases hcaller with ⟨⟨n, rfl⟩, rfl, rfl⟩ | ⟨hi, rfl, rfl⟩ | ⟨hi, rfl, rfl⟩
    · exact ⟨(·.complete .ok), fun _ => rfl⟩
    · obtain ⟨b, hb⟩ := progOf_blk hi
      exact ⟨blkL0 b, fun w => hb (.b2 w) s⟩
    · obtain ⟨d, hd⟩ := progOf_dma hi
      exact ⟨dmaM2, fun w => hd (.m1 w) s⟩
  have hline {w : WidthLabel} (hat : At s i (wrap w)) :
      exec i s = .next (setWordWidth wrap ret cont w s) := exec_at hat (hprog w)
  refine ⟨fun hat hne => ?_, hline, hline, ?_, hline, hline, hline, hline⟩
  · rw [hline hat, setWordWidth_start hne, widthStart]
    cases s.params.gen <;> rfl
  · rintro (hat | hat | hat) <;> exact hline hat

/-! ## SET_WIDTH -/

/-- An accepted SET_WIDTH to the current width completes at its first label (R155). -/
theorem setWidth_same {s : State} {n : Nat} (hn : n = s.curWidth) :
    progOf (.setWidth n) (.setWidth (.sw0 .w0)) (s.accept (.setWidth n))
      = some ((s.accept (.setWidth n)).complete .ok) :=
  congrArg some (if_pos hn)

/-- To another width it starts the width change. -/
theorem setWidth_start {s : State} {n : Nat} (hne : n ≠ s.curWidth) :
    progOf (.setWidth n) (.setWidth (.sw0 .w0)) (s.accept (.setWidth n))
      = some (widthStart (fun w => .setWidth (.sw0 w)) (s.accept (.setWidth n))) :=
  congrArg some (if_neg hne)

/-- Settles O23: the attempt, and the completion (`setWidth_same`). -/
theorem setWidthToCurrentWidthHasNoSideEffect :
    Obligations.SetWidthToCurrentWidthHasNoSideEffect := by
  unfold Obligations.SetWidthToCurrentWidthHasNoSideEffect
  intro s hr
  rw [execN_ready hr, execN_complete (at_accept s (.setWidth s.curWidth)) nofun (setWidth_same rfl)]
  rfl

/-- The last line of the width change, and OK. -/
theorem finishWidth_ends (n : Nat) : Ends (.setWidth n)
    (fun s => s.finishWidth.goto (.setWidth .sw1)) (·.finishWidth.complete .ok) :=
  have hlast : Ends (.setWidth n) (·.complete .ok) (·.complete .ok) := .last _ fun _ _ => rfl
  hlast.after State.finishWidth _ (fun _ _ => ⟨rfl, rfl, rfl⟩) fun _ => rfl

/-- The state in which SET_WIDTH ends on GEN1 and GEN2, from its first line. -/
def State.widthChanged (s : State) : State :=
  (s.fieldWrite [.en 0]).writeWidth.finishWidth.complete .ok

/-- GEN1 and GEN2, from the line that clears EN. -/
theorem widthChanged_ends (n : Nat) {w : WidthLabel} (hw : w = .w11 ∨ w = .w21) :
    Ends (.setWidth n) (fun s => (s.fieldWrite [.en 0]).goto (.setWidth (.sw0 w)))
      State.widthChanged := by
  have hwrite (w' : WidthLabel) := (finishWidth_ends n).after State.writeWidth
    (.setWidth (.sw0 w')) fun _ _ => ⟨rfl, rfl, rfl⟩
  rcases hw with rfl | rfl
  · exact (hwrite .w12 fun _ => rfl).after (·.fieldWrite [.en 0]) _
      (fun _ _ => ⟨rfl, rfl, rfl⟩) fun _ => rfl
  · exact (hwrite .w22 fun _ => rfl).after (·.fieldWrite [.en 0]) _
      (fun _ _ => ⟨rfl, rfl, rfl⟩) fun _ => rfl

/-- The state in which SET_WIDTH ends on GEN3 from W3.2 on. -/
def State.widthResumed (s : State) : State :=
  ((s.fieldWrite [.en 0]).writeWidth.fieldWrite [.susp 0]).finishWidth.complete .ok

/-- GEN3, from W3.2 on. -/
theorem widthResumed_ends (n : Nat) :
    Ends (.setWidth n) (fun s => (s.fieldWrite [.en 0]).goto (.setWidth (.sw0 .w33)))
      State.widthResumed := by
  have hresume := (finishWidth_ends n).after (·.fieldWrite [.susp 0]) (.setWidth (.sw0 .w35))
    (fun _ _ => ⟨rfl, rfl, rfl⟩) fun _ => rfl
  have hwrite := hresume.after State.writeWidth (.setWidth (.sw0 .w34))
    (fun _ _ => ⟨rfl, rfl, rfl⟩) fun _ => rfl
  exact hwrite.after (·.fieldWrite [.en 0]) (.setWidth (.sw0 .w33))
    (fun _ _ => ⟨rfl, rfl, rfl⟩) fun _ => rfl

section
variable {s : State} {n : Nat}

/-- The state in which SET_WIDTH ends on GEN3, from its first line, where the first sample shows
transfer complete. -/
def State.widthChangedSuspended (s : State) : State :=
  (s.fieldWrite [.susp 1]).statusSample.widthResumed

theorem setWidth_ends (hr : Ready s (.setWidth n)) (hne : n ≠ s.curWidth)
    (hg : s.params.gen ≠ .gen3) :
    ∃ k, execN (.setWidth n) k s = .next (s.accept (.setWidth n)).widthChanged := by
  obtain ⟨w, hw, hstart⟩ := widthStart_disables (s := s.accept (.setWidth n))
    (wrap := fun w => .setWidth (.sw0 w)) hg
  exact (widthChanged_ends n hw).of_ready hr ((setWidth_start hne).trans (congrArg some hstart))

/-- On GEN3: W3.0, the sample of W3.1, and the rest of the lines. -/
theorem setWidth_ends_gen3 (hr : Ready s (.setWidth n)) (hne : n ≠ s.curWidth)
    (hg : s.params.gen = .gen3) (htc : s.env.nextSample.tc = true) :
    ∃ k, execN (.setWidth n) k s = .next (s.accept (.setWidth n)).widthChangedSuspended := by
  let suspended := ((s.accept (.setWidth n)).fieldWrite [.susp 1]).goto (.setWidth (.sw0 .w31))
  have h0 := at_accept s (.setWidth n)
  have h1 : At suspended (.setWidth n) (.setWidth (.sw0 .w31)) := at_goto h0 rfl rfl _
  have h2 : At (suspended.statusSample.goto (.setWidth (.sw0 .w32))) (.setWidth n) _ :=
    at_goto h1 rfl rfl _
  have hstart := (setWidth_start hne).trans (congrArg some (widthStart_suspends hg))
  have hspin := widthSpin_complete (s := suspended) (wrap := fun w => .setWidth (.sw0 w))
    ((coming_tc hg).trans htc)
  obtain ⟨k, hk⟩ := (widthResumed_ends n).run _ _ h2 rfl
  rw [← execN_at h1 (congrArg some hspin), ← execN_at h0 hstart, ← execN_ready hr] at hk
  exact ⟨k + 3, hk⟩

end

/-- The width fields are none of the others that the width change writes. -/
theorem widthChanged_ctl (s : State) : s.widthChanged.ctl
    = { assignFields s.ctl (widthFields s.params s.latch.n) with en := 1, susp := s.ctl.susp } := by
  change assignFields (assignFields (assignFields s.ctl [.en 0])
    (widthFields s.params s.latch.n)) [.en 1] = _
  unfold widthFields
  split <;> rfl

theorem widthChangedSuspended_ctl (s : State) : s.widthChangedSuspended.ctl
    = { assignFields s.ctl (widthFields s.params s.latch.n) with en := 1, susp := 0 } := by
  change assignFields (assignFields (assignFields (assignFields (assignFields s.ctl [.susp 1])
    [.en 0]) (widthFields s.params s.latch.n)) [.susp 0]) [.en 1] = _
  unfold widthFields
  split <;> rfl

theorem widthChanged_trace (s : State) : s.widthChanged.trace = s.trace
    ++ [.fw [.en 0], .fw (widthFields s.params s.latch.n), .fw [.en 1]] := by
  apply trace_of_journal
  simp [State.widthChanged, State.writeWidth, State.finishWidth]

theorem widthChangedSuspended_trace (s : State) : s.widthChangedSuspended.trace = s.trace
    ++ [.fw [.susp 1], .ss s.coming, .fw [.en 0], .fw (widthFields s.params s.latch.n),
      .fw [.susp 0], .fw [.en 1]] := by
  apply trace_of_journal
  simp [State.widthChangedSuspended, State.widthResumed, State.writeWidth, State.finishWidth,
    State.coming]

/-- Settles O21: the two sequences (`setWidth_ends`, `setWidth_ends_gen3`) and the states they end
in. -/
theorem widthChangeSequence : Obligations.WidthChangeSequence := by
  unfold Obligations.WidthChangeSequence
  intro s n hr hne htc
  by_cases hg : s.params.gen = .gen3
  · simp only [if_pos hg]
    obtain ⟨k, hk⟩ := setWidth_ends_gen3 hr hne hg (htc hg)
    exact ⟨k, _, hk, rfl, rfl, rfl, widthChangedSuspended_ctl _, widthChangedSuspended_trace _,
      rfl, rfl, rfl, rfl, rfl, rfl, rfl, rfl, rfl⟩
  · simp only [if_neg hg]
    obtain ⟨k, hk⟩ := setWidth_ends hr hne hg
    exact ⟨k, _, hk, rfl, rfl, rfl, widthChanged_ctl _, widthChanged_trace _,
      rfl, rfl, rfl, rfl, rfl, rfl, rfl, rfl, rfl⟩

end Sys2Proof.Machine
end

section
/-! SUPPORT. The single steps of POLL, the drain and the blocking commands (R170 to R188, R232,
R233): what a blocking command fixes, and how a step of its engine goes on. -/

namespace Sys2Proof.Machine

/-! ## POLL and the drain -/

/-- The result code of a sample (R173, R250). -/
theorem errclass_result (x : Sample) : (errclass x).result
    = if x.ovr then .overrun else if x.fre then .framing
      else if x.modf then .modeFault else if x.crce then .crc else .ok := by
  unfold errclass
  (repeat' split) <;> rfl

/-- Settles O24: the attempt, the sample of Q0, and the completion at Q1 with the sample's class. -/
theorem pollReportsTheFirstError : Obligations.PollReportsTheFirstError := by
  unfold Obligations.PollReportsTheFirstError
  intro s hr x
  have h0 := at_accept s .poll
  have h1 : At ((s.accept .poll).statusSample.classify.goto .q1) .poll .q1 := at_goto h0 rfl rfl _
  rw [execN_ready hr, execN_at h0 rfl, execN_complete h1 nofun rfl, ← errclass_result x]
  rfl

section
variable {wrap : DrainLabel → Label} {ret : Label} {cont : State → State} {s : State}

/-- On GEN3 the drain takes no step (R171). -/
theorem drain_gen3 (hg : s.params.gen = .gen3) : drain wrap ret cont .dr0 s = cont s := if_pos hg

theorem drain_sample (hg : s.params.gen ≠ .gen3) : drain wrap ret cont .dr0 s
    = s.statusSample.goto (if s.coming.rxrdy then wrap .dr1 else ret) := if_neg hg

end

/-- A receiving DMA command drains at M3 (R203). -/
theorem progOf_m3 {i : Instr} (hi : usesRxChannel i = true) :
    ∃ d, ∀ l s, progOf i (.dma (.m3 l)) s
      = some (drain (fun l => .dma (.m3 l)) (.dma .m4) (dmaM4 d) l s) := by
  cases i with
  | dmaRead n => exact ⟨dmaReadSpec, fun _ _ => rfl⟩
  | dmaXfer n => exact ⟨dmaXferSpec, fun _ _ => rfl⟩
  | dmaXferIp n => exact ⟨dmaXferIpSpec, fun _ _ => rfl⟩
  | _ => cases hi

/-- Settles O25: each caller runs `drain` at its labels. -/
theorem drainDiscardsWhileReceiveReady : Obligations.DrainDiscardsWhileReceiveReady := by
  unfold Obligations.DrainDiscardsWhileReceiveReady
  intro s i wrap ret hcaller
  obtain ⟨cont, hprog⟩ : ∃ cont, ∀ d, progOf i (wrap d) s = some (drain wrap ret cont d s) := by
    rcases hcaller with ⟨rfl, rfl, rfl⟩ | ⟨hi, rfl, rfl⟩ | ⟨hi, rfl, rfl⟩
    · exact ⟨(·.complete .ok), fun _ => rfl⟩
    · obtain ⟨b, hb⟩ := progOf_blk hi
      exact ⟨blkB2 b .w0, fun d => hb (.b1 d) s⟩
    · obtain ⟨d, hd⟩ := progOf_m3 hi
      exact ⟨dmaM4 d, fun l => hd l s⟩
  refine ⟨fun hat hg => ?_, fun hat => exec_at hat (hprog .dr1), ?_⟩
  · rw [exec_at hat (hprog .dr0), drain_sample hg]
    rfl
  · rintro rfl hlast
    obtain ⟨rfl, rfl⟩ : wrap = .dn0 ∧ ret = .dn1 := by
      simpa [isBlocking, usesRxChannel] using hcaller
    have hend {l : Label} (hat : At s .drain l) (hp : progOf .drain l s = some (s.complete .ok)) :
        exec .drain s = .next (s.endedWith .ok .idle) := by
      obtain ⟨-, -, hlatch⟩ := at_iff.1 hat
      rw [exec_at hat hp, complete_eq_endedWith hlatch nofun]
    rcases hlast with ⟨hat, hg⟩ | hat
    · exact hend hat (congrArg some (drain_gen3 hg))
    · exact hend hat rfl

/-! ## The engine -/

/-- What the blocking command `i` fixes of the engine (R178, R183 to R186). -/
structure RunsEngine (i : Instr) (b : BlkSpec) : Prop where
  prog : ∀ l s, progOf i (.blk l) s = some (blkStep b l s)
  len  : ∀ s, (b.len s).toNat = positions i s.regs
  src  : ∀ s, b.src s = srcZero s ∨ ∃ a, b.src s = srcMem a s
  sink : ∀ s, b.sink s = sinkDiscard s ∨ b.sink s = sinkMem s

theorem blkXferSpec_len (s : State) :
    (blkXferSpec.len s).toNat = max s.regs.txlen.toNat s.regs.rxlen.toNat := by
  simp only [blkXferSpec, BitVec.le_def]
  split <;> omega

section
variable {s : State}

theorem blkXferSpec_src_elem (h : s.vars.i < s.regs.txlen) :
    blkXferSpec.src s = srcMem (·.regs.txaddr) s := if_pos h

theorem blkXferSpec_src_zero (h : ¬s.vars.i < s.regs.txlen) : blkXferSpec.src s = srcZero s :=
  if_neg h

theorem blkXferSpec_sink_elem (h : s.vars.i < s.regs.rxlen) : blkXferSpec.sink s = sinkMem s :=
  if_pos h

theorem blkXferSpec_sink_drop (h : ¬s.vars.i < s.regs.rxlen) :
    blkXferSpec.sink s = sinkDiscard s := if_neg h

end

theorem runsEngine_blkWrite (n : Nat) : RunsEngine (.blkWrite n) blkWriteSpec :=
  ⟨fun _ _ => rfl, fun _ => rfl, fun _ => .inr ⟨(·.regs.txaddr), rfl⟩, fun _ => .inl rfl⟩

theorem runsEngine_blkRead (n : Nat) : RunsEngine (.blkRead n) blkReadSpec :=
  ⟨fun _ _ => rfl, fun _ => rfl, fun _ => .inl rfl, fun _ => .inr rfl⟩

theorem runsEngine_blkXferIp (n : Nat) : RunsEngine (.blkXferIp n) blkXferIpSpec :=
  ⟨fun _ _ => rfl, fun _ => rfl, fun _ => .inr ⟨(·.regs.rxaddr), rfl⟩, fun _ => .inr rfl⟩

theorem runsEngine_blkXfer (n : Nat) : RunsEngine (.blkXfer n) blkXferSpec := by
  refine ⟨fun _ _ => rfl, blkXferSpec_len, fun s => ?_, fun s => ?_⟩
  · by_cases h : s.vars.i < s.regs.txlen
    · exact .inr ⟨_, blkXferSpec_src_elem h⟩
    · exact .inl (blkXferSpec_src_zero h)
  · by_cases h : s.vars.i < s.regs.rxlen
    · exact .inr (blkXferSpec_sink_elem h)
    · exact .inl (blkXferSpec_sink_drop h)

/-- Every blocking command runs the engine. -/
theorem runsEngine {i : Instr} (hi : isBlocking i = true) : ∃ b, RunsEngine i b := by
  cases i with
  | blkWrite n => exact ⟨_, runsEngine_blkWrite n⟩
  | blkRead n => exact ⟨_, runsEngine_blkRead n⟩
  | blkXfer n => exact ⟨_, runsEngine_blkXfer n⟩
  | blkXferIp n => exact ⟨_, runsEngine_blkXferIp n⟩
  | _ => cases hi

theorem isBlocking_ne_deinit {i : Instr} (hi : isBlocking i = true) : i ≠ .deinit := by
  rintro rfl
  cases hi

/-- T2 writes START on GEN3, after every word or only after the first (R175, R176). -/
abbrev StartsWord (s : State) : Prop :=
  s.params.gen = .gen3 ∧ (s.params.startEveryWord = true ∨ s.vars.i = 0)

theorem blkT2_start {s : State} (h : StartsWord s) :
    blkT2 s = (s.fieldWrite [.start 1]).goto (.blk .t3) := if_pos h

section
variable {i : Instr} {b : BlkSpec} {s : State}

theorem RunsEngine.exec_at (hb : RunsEngine i b) {l : BlkLabel} (hat : At s i (.blk l)) :
    exec i s = .next (blkStep b l s) := Machine.exec_at hat (hb.prog l s)

theorem blkB2_same (h : s.latch.n = s.curWidth) : blkB2 b .w0 s = blkL0 b s := if_pos h

theorem blkB1_gen3 (hg : s.params.gen = .gen3) : blkB1 b .dr0 s = blkB2 b .w0 s := drain_gen3 hg

end

/-- Settles O26: the engine's lines at B0, B1, B2 and L0. -/
theorem blockingPreamble : Obligations.BlockingPreamble := by
  unfold Obligations.BlockingPreamble
  intro s i hi
  obtain ⟨b, hb⟩ := runsEngine hi
  refine ⟨fun hat => hb.exec_at hat, fun hat hg hne => ?_, fun hlast => ⟨b.len s, hb.len s, ?_⟩⟩
  · rw [hb.exec_at hat, blkStep, blkB1_gen3 hg, blkB2, setWordWidth_start hne,
      widthStart_suspends hg]
    rfl
  · change exec i s = .next (blkL0 b s)
    rcases hlast with hat | ⟨hat, hw⟩ | ⟨hat, hg, hw⟩
    · exact hb.exec_at hat
    · rw [hb.exec_at hat, blkStep, blkB2_same hw]
    · rw [hb.exec_at hat, blkStep, blkB1_gen3 hg, blkB2_same hw]

/-- Settles O28: the engine's lines of a position. -/
theorem blockingPositionSteps : Obligations.BlockingPositionSteps := by
  unfold Obligations.BlockingPositionSteps
  intro s i hi
  obtain ⟨b, hb⟩ := runsEngine hi
  refine ⟨fun hat => ?_, fun hat => hb.exec_at hat, fun hat hg hw => ?_, fun hat => hb.exec_at hat,
    fun hat => hb.exec_at hat, fun hat => ?_⟩
  · rw [hb.exec_at hat, blkStep, apply_ite Label.blk]
    rfl
  · rw [hb.exec_at hat, blkStep, blkT2_start ⟨hg, hw⟩]
    rfl
  · obtain ⟨-, -, hlatch⟩ := at_iff.1 hat
    rw [hb.exec_at hat, blkStep, complete_eq_endedWith hlatch (isBlocking_ne_deinit hi)]

/-- The element of a position, its address spelled out (R66). -/
theorem elemAddr_eq (a i : Word) (sz : Nat) :
    elemAddr a i sz = BitVec.ofNat 32 (a.toNat + i.toNat * sz) := by
  apply BitVec.eq_of_toNat_eq
  rw [elemAddr_toNat, BitVec.toNat_ofNat]

/-- Settles O29: the source and the sink of each command's positions. -/
theorem blockingSourcesAndSinks : Obligations.BlockingSourcesAndSinks := by
  unfold Obligations.BlockingSourcesAndSinks
  intro s n
  simp only [← elemAddr_eq, ← BitVec.lt_def]
  have hx := runsEngine_blkXfer n
  refine ⟨fun hat => exec_at hat rfl, fun hat => exec_at hat rfl, fun hat => exec_at hat rfl,
    fun hat => exec_at hat rfl, fun hat => ?_, fun hat => ?_, fun hat => exec_at hat rfl,
    fun hat => exec_at hat rfl⟩
  · rw [hx.exec_at hat, blkStep]
    split
    · next h => rw [blkXferSpec_src_elem h]; rfl
    · next h => rw [blkXferSpec_src_zero h]; rfl
  · rw [hx.exec_at hat, blkStep]
    split
    · next h => rw [blkXferSpec_sink_elem h]; rfl
    · next h => rw [blkXferSpec_sink_drop h]; rfl

/-! ## How a step goes on -/

/-- How a step of a running blocking command goes on: to another label, or to an end with OK or one
of the four errors. -/
inductive EngineStep (s : State) : State → Prop where
  | goes {u : State} (l : Label) (hst : u.status = s.status) : EngineStep s (u.goto l)
  | ends {u : State} (e : ErrClass) (hk : u.latch = s.latch) : EngineStep s (u.complete e.result)

/-- A guarded line, and the line that runs in its place. -/
theorem EngineStep.ite {s t u : State} {c : Prop} [Decidable c] (ht : EngineStep s t)
    (hu : EngineStep s u) : EngineStep s (if c then t else u) := by
  split
  · exact ht
  · exact hu

section
variable {i : Instr} {b : BlkSpec} {s t : State}

theorem pollFor_engine (flag : Sample → Bool) (here ret : Label) :
    EngineStep s (pollFor flag here ret s) := .ite (.ends _ rfl) (.goes _ rfl)

theorem setWordWidth_engine {cont : State → State} (h : EngineStep s (cont s))
    (wrap : WidthLabel → Label) (ret : Label) (w : WidthLabel) :
    EngineStep s (setWordWidth wrap ret cont w s) := by
  cases w with
  | w0 =>
    refine .ite h ?_
    unfold widthStart
    split <;> exact .goes _ rfl
  | _ => exact .goes _ rfl

theorem blkStep_engine (hb : RunsEngine i b) (l : BlkLabel) : EngineStep s (blkStep b l s) := by
  have h2 (w : WidthLabel) : EngineStep s (blkB2 b w s) :=
    setWordWidth_engine (cont := blkL0 b) (.goes _ rfl) _ _ w
  have hpoll : EngineStep s (blkT3 s) := pollFor_engine _ _ _
  cases l with
  | b1 d =>
    cases d with
    | dr0 => exact .ite (h2 .w0) (.goes _ rfl)
    | dr1 => exact .goes _ rfl
  | b2 w => exact h2 w
  | l2 => rcases hb.src s with h | ⟨a, h⟩ <;> exact .goes _ (h ▸ rfl)
  | l4 => rcases hb.sink s with h | h <;> exact .goes _ (h ▸ rfl)
  | t0 => exact pollFor_engine _ _ _
  | t2 => exact .ite (.goes _ rfl) hpoll
  | t3 => exact hpoll
  | fin => exact .ends .none rfl
  | _ => exact .goes _ rfl

/-- A blocking command has the engine's labels only. -/
theorem label_of_blocking {l : Label} (hi : isBlocking i = true) (h : progOf i l s = some t) :
    ∃ k, l = .blk k := by
  cases i with
  | blkWrite | blkRead | blkXfer | blkXferIp => cases l <;> cases h; exact ⟨_, rfl⟩
  | _ => cases hi

end

theorem errorResult_cases (e : ErrClass) : e.result = .ok ∨ e.result = .overrun
    ∨ e.result = .framing ∨ e.result = .modeFault ∨ e.result = .crc := by
  cases e <;> simp [ErrClass.result]

/-- Settles O33, by the two ways a step of the engine goes on (`blkStep_engine`). -/
theorem blockingEndsOnlyInIdle : Obligations.BlockingEndsOnlyInIdle := by
  unfold Obligations.BlockingEndsOnlyInIdle
  intro s t i hi hrun hbusy h
  obtain ⟨b, hb⟩ := runsEngine hi
  obtain ⟨l, hat, hp⟩ := (exec_cases h).resolve_right fun hn => hn.1 hrun
  obtain ⟨-, -, hlatch⟩ := at_iff.1 hat
  obtain ⟨k, rfl⟩ := label_of_blocking hi hp
  rw [hb.prog, Option.some.injEq] at hp
  cases hp ▸ blkStep_engine hb k (s := s) with
  | goes l hst => exact .inl ⟨hst, nofun⟩
  | ends e hk =>
    rw [complete_eq_endedWith (hk ▸ hlatch) (isBlocking_ne_deinit hi)]
    exact .inr ⟨rfl, rfl, rfl, errorResult_cases e⟩

end Sys2Proof.Machine
end

section
/-! SUPPORT. The position loop of the blocking commands, run alone with error-free ready samples
(R175 to R186): the state after any number of positions, and what each command has then sent or
stored. -/

namespace Sys2Proof.Machine

/-! ## Runs -/

/-- Steps of `i` alone lead from one state to the other. -/
abbrev Runs (i : Instr) (s t : State) : Prop := ∃ k, execN i k s = .next t

section
variable {i : Instr} {s t u : State} {l : Label}

/-- Steps after steps. -/
theorem execN_add {j : Nat} (h : execN i j s = .next t) (k : Nat) :
    execN i (j + k) s = execN i k t := by
  induction j generalizing s with
  | zero => cases h; rw [Nat.zero_add]
  | succ j ih =>
    rw [Nat.add_right_comm, execN]
    rw [execN] at h
    split at h
    · exact ih h
    · cases h
    · cases h

theorem Runs.refl (i : Instr) (s : State) : Runs i s s := ⟨0, rfl⟩

theorem Runs.trans (h : Runs i s t) (h' : Runs i t u) : Runs i s u := by
  obtain ⟨j, hj⟩ := h
  obtain ⟨k, hk⟩ := h'
  exact ⟨j + k, (execN_add hj k).trans hk⟩

theorem Runs.step (h : At s i l) (hp : progOf i l s = some t) : Runs i s t :=
  ⟨1, by rw [execN_at h hp, execN]⟩

end

/-! ## Data-register accesses -/

/-- The data-register accesses of the trace (R64). -/
def State.dataEvents (s : State) : List Event := s.trace.filter fun e => (dataAccess e).isSome

section
variable {s t : State} {e : Event}

theorem trace_append (h : t.journal = s.journal ++ [.event e]) : t.trace = s.trace ++ [e] :=
  trace_of_journal h

theorem dataEvents_access (h : t.journal = s.journal ++ [.event e])
    (he : (dataAccess e).isSome = true) : t.dataEvents = s.dataEvents ++ [e] := by
  rw [State.dataEvents, trace_append h, List.filter_append, List.filter_singleton, he]
  rfl

theorem dataEvents_other (h : t.journal = s.journal ++ [.event e])
    (he : (dataAccess e).isSome = false) : t.dataEvents = s.dataEvents := by
  rw [State.dataEvents, trace_append h, List.filter_append, List.filter_singleton, he]
  exact List.append_nil _

/-- A function that answers for data-register accesses only sees no other event. -/
theorem dataEvents_filterMap {α : Type} {f : Event → Option α}
    (hf : ∀ e, dataAccess e = none → f e = none) (s : State) :
    s.dataEvents.filterMap f = s.trace.filterMap f := by
  rw [State.dataEvents, List.filterMap_filter]
  refine List.filterMap_congr fun e _ => ?_
  split
  · rfl
  · next h => exact (hf e (by simpa using h)).symm

theorem sentWord_none (e : Event) (h : dataAccess e = none) : sentWord e = none := by
  cases e <;> first | rfl | cases h

end

/-! ## What a position leaves -/

/-- The state with everything blanked that the position loop may change (R181). -/
def State.outline (s : State) : State :=
  { s with
    regs := { s.regs with xcount := 0, ssample := 0 }
    ctl := { s.ctl with start := 0 }
    vars := (State.resetWith s.params).vars
    mpc := none
    mem := []
    view := ⟨[], []⟩
    journal := []
    env := (State.resetWith s.params).env }

section
variable {s t : State}

theorem regs_of_outline (h : t.outline = s.outline) :
    t.regs = { s.regs with xcount := t.regs.xcount, ssample := t.regs.ssample } :=
  congrArg (fun u => { u.regs with xcount := t.regs.xcount, ssample := t.regs.ssample }) h

theorem ctl_of_outline (h : t.outline = s.outline) :
    t.ctl = { s.ctl with start := t.ctl.start } :=
  congrArg (fun u => { u.ctl with start := t.ctl.start }) h

theorem status_of_outline (h : t.outline = s.outline) : t.status = s.status :=
  congrArg (fun u => u.status) h

theorem latch_of_outline (h : t.outline = s.outline) : t.latch = s.latch :=
  congrArg (fun u => u.latch) h

/-- The command runs on at another label. -/
theorem at_of_outline {i : Instr} {l l' : Label} (h : At s i l) (ho : t.outline = s.outline)
    (hl : t.mpc = some l') : At t i l' := by
  obtain ⟨hfsm, -, hi⟩ := at_iff.1 h
  exact at_iff.2 ⟨status_of_outline ho ▸ hfsm, hl, latch_of_outline ho ▸ hi⟩

/-- What a line leaves that neither samples, nor accesses the data registers, nor counts. -/
structure Aside (s t : State) : Prop where
  outline : t.outline = s.outline
  i       : t.vars.i = s.vars.i
  n       : t.vars.n = s.vars.n
  env     : t.env = s.env
  data    : t.dataEvents = s.dataEvents

theorem Aside.refl (s : State) : Aside s s := ⟨rfl, rfl, rfl, rfl, rfl⟩

theorem Aside.goto (h : Aside s t) (l : Label) : Aside s (t.goto l) :=
  ⟨h.outline, h.i, h.n, h.env, h.data⟩

theorem Aside.of_goto {l : Label} (h : Aside (s.goto l) t) : Aside s t :=
  ⟨h.outline, h.i, h.n, h.env, h.data⟩

theorem RunsEngine.src_aside {i : Instr} {b : BlkSpec} (hb : RunsEngine i b) (s : State) :
    Aside s (b.src s) := by
  rcases hb.src s with h | ⟨a, h⟩ <;> rw [h]
  · exact ⟨rfl, rfl, rfl, rfl, rfl⟩
  · exact ⟨rfl, rfl, rfl, rfl, dataEvents_other rfl rfl⟩

theorem RunsEngine.sink_aside {i : Instr} {b : BlkSpec} (hb : RunsEngine i b) (s : State) :
    Aside s (b.sink s) := by
  rcases hb.sink s with h | h <;> rw [h]
  · exact .refl s
  · exact ⟨rfl, rfl, rfl, rfl, dataEvents_other rfl rfl⟩

end

/-! ## One position -/

/-- After L1 and L2. -/
def State.fetched (b : BlkSpec) (s : State) : State := (b.src (s.goto (.blk .l2))).goto (.blk .t0)

/-- After a poll that goes on to `l`. -/
def State.polled (s : State) (l : BlkLabel) : State := s.statusSample.classify.goto (.blk l)

/-- After T0, whose sample shows transmit-ready, and T1. -/
def State.sent (s : State) : State :=
  ((s.polled .t1).dataWrite s.latch.sz s.vars.tx).goto (.blk .t2)

/-- After T2, or at its label where it takes no step. -/
def State.started (s : State) : State :=
  if StartsWord s then (s.fieldWrite [.start 1]).goto (.blk .t3) else s

/-- After T3, whose sample shows receive-ready, and T4. -/
def State.received (s : State) : State :=
  ((s.polled .t4).dataReadRx s.latch.sz).goto (.blk .l4)

/-- After L1 to T4 of a position, both of whose samples are clean and ready. -/
def State.transferred (b : BlkSpec) (s : State) : State := (s.fetched b).sent.started.received

/-- After L4. -/
def State.sunk (b : BlkSpec) (s : State) : State := (b.sink s).goto (.blk .l5)

/-- After one position (R178). -/
def State.position (b : BlkSpec) (s : State) : State := blkL5 ((s.transferred b).sunk b)

section
variable {i : Instr} {b : BlkSpec}

theorem fetched_aside (hb : RunsEngine i b) (s : State) : Aside s (s.fetched b) :=
  (hb.src_aside (s.goto _)).of_goto.goto _

theorem started_aside (s : State) : Aside s s.started := by
  unfold State.started
  split
  · exact ⟨rfl, rfl, rfl, rfl, dataEvents_other rfl rfl⟩
  · exact .refl s

theorem sunk_aside (hb : RunsEngine i b) (s : State) : Aside s (s.sunk b) :=
  (hb.sink_aside s).goto _

@[simp] theorem sent_outline (s : State) : s.sent.outline = s.outline := rfl
@[simp] theorem sent_i (s : State) : s.sent.vars.i = s.vars.i := rfl
@[simp] theorem sent_n (s : State) : s.sent.vars.n = s.vars.n := rfl
@[simp] theorem sent_env (s : State) : s.sent.env = s.env.afterSample := rfl

/-- A poll is no data-register access. -/
@[simp] theorem polled_dataEvents (s : State) (l : BlkLabel) :
    (s.polled l).dataEvents = s.dataEvents :=
  dataEvents_other (e := .ss s.coming) rfl rfl

@[simp] theorem sent_dataEvents (s : State) :
    s.sent.dataEvents = s.dataEvents ++ [Event.dw s.latch.sz s.vars.tx] :=
  polled_dataEvents s .t1 ▸ dataEvents_access (s := s.polled .t1) rfl rfl

theorem fetched_mem (hb : RunsEngine i b) (s : State) : (s.fetched b).mem = s.mem := by
  change (b.src (s.goto _)).mem = _
  rcases hb.src (s.goto _) with h | ⟨a, h⟩ <;> rw [h] <;> rfl

@[simp] theorem started_mem (s : State) : s.started.mem = s.mem := by
  unfold State.started
  split <;> rfl

@[simp] theorem sent_mem (s : State) : s.sent.mem = s.mem := rfl
@[simp] theorem received_mem (s : State) : s.received.mem = s.mem := rfl
@[simp] theorem received_outline (s : State) : s.received.outline = s.outline := rfl
@[simp] theorem received_i (s : State) : s.received.vars.i = s.vars.i := rfl
@[simp] theorem received_n (s : State) : s.received.vars.n = s.vars.n := rfl
@[simp] theorem received_env (s : State) : s.received.env = s.env.afterSample.afterData := rfl
@[simp] theorem received_rx (s : State) :
    s.received.vars.rx = lowBytes s.latch.sz s.env.afterSample.nextData := rfl

@[simp] theorem received_dataEvents (s : State) :
    s.received.dataEvents = s.dataEvents ++ [Event.dr s.latch.sz s.received.vars.rx] :=
  polled_dataEvents s .t4 ▸ dataEvents_access (s := s.polled .t4) rfl rfl

theorem transferred_outline (hb : RunsEngine i b) (s : State) :
    (s.transferred b).outline = s.outline := by
  rw [State.transferred, received_outline, (started_aside _).outline, sent_outline,
    (fetched_aside hb s).outline]

theorem transferred_i (hb : RunsEngine i b) (s : State) :
    (s.transferred b).vars.i = s.vars.i := by
  rw [State.transferred, received_i, (started_aside _).i, sent_i, (fetched_aside hb s).i]

theorem transferred_n (hb : RunsEngine i b) (s : State) :
    (s.transferred b).vars.n = s.vars.n := by
  rw [State.transferred, received_n, (started_aside _).n, sent_n, (fetched_aside hb s).n]

theorem transferred_env (hb : RunsEngine i b) (s : State) :
    (s.transferred b).env = s.env.afterSample.afterSample.afterData := by
  rw [State.transferred, received_env, (started_aside _).env, sent_env, (fetched_aside hb s).env]

theorem transferred_mem (hb : RunsEngine i b) (s : State) : (s.transferred b).mem = s.mem := by
  rw [State.transferred, received_mem, started_mem, sent_mem, fetched_mem hb]

/-- The word received is the next receive-data answer, cut to the element size (R175 T4). -/
theorem transferred_rx (hb : RunsEngine i b) (s : State) :
    (s.transferred b).vars.rx = lowBytes s.latch.sz s.env.afterSample.afterSample.nextData := by
  have hfetched := fetched_aside hb s
  have hstarted := started_aside (s.fetched b).sent
  rw [State.transferred, received_rx, hstarted.env, sent_env, hfetched.env,
    latch_of_outline (hstarted.outline.trans hfetched.outline)]

/-- R180: one write and one read, in this order. -/
theorem transferred_dataEvents (hb : RunsEngine i b) (s : State) :
    (s.transferred b).dataEvents = s.dataEvents
      ++ [Event.dw s.latch.sz (s.fetched b).vars.tx, .dr s.latch.sz (s.transferred b).vars.rx] := by
  have hfetched := fetched_aside hb s
  have hsize : (s.fetched b).sent.started.latch = s.latch :=
    latch_of_outline ((started_aside _).outline.trans hfetched.outline)
  rw [State.transferred, received_dataEvents, (started_aside _).data, sent_dataEvents,
    hfetched.data, hsize, latch_of_outline hfetched.outline, List.append_assoc,
    List.singleton_append]

theorem position_outline (hb : RunsEngine i b) (s : State) :
    (s.position b).outline = s.outline :=
  (sunk_aside hb _).outline.trans (transferred_outline hb s)

theorem position_i (hb : RunsEngine i b) (s : State) : (s.position b).vars.i = s.vars.i + 1 :=
  congrArg (· + 1) ((sunk_aside hb _).i.trans (transferred_i hb s))

theorem position_n (hb : RunsEngine i b) (s : State) : (s.position b).vars.n = s.vars.n :=
  (sunk_aside hb _).n.trans (transferred_n hb s)

theorem position_env (hb : RunsEngine i b) (s : State) :
    (s.position b).env = s.env.afterSample.afterSample.afterData :=
  (sunk_aside hb _).env.trans (transferred_env hb s)

theorem position_xcount (b : BlkSpec) (s : State) :
    (s.position b).regs.xcount = (s.position b).vars.i := rfl

theorem position_dataEvents (hb : RunsEngine i b) (s : State) : (s.position b).dataEvents
    = s.dataEvents
      ++ [Event.dw s.latch.sz (s.fetched b).vars.tx, .dr s.latch.sz (s.transferred b).vars.rx] := by
  change ((s.transferred b).sunk b).dataEvents = _
  rw [(sunk_aside hb _).data, transferred_dataEvents hb]

/-- A position whose sink stores puts the word received in its element (R178 L4). -/
theorem position_stores (hb : RunsEngine i b) (hsink : ∀ s, b.sink s = sinkMem s) (s : State) :
    (s.position b).mem = s.mem.store (elemAddr s.regs.rxaddr s.vars.i s.latch.sz) s.latch.sz
      (lowBytes s.latch.sz s.env.afterSample.afterSample.nextData).toNat := by
  have hregs := regs_of_outline (transferred_outline hb s)
  change (b.sink (s.transferred b)).mem = _
  rw [hsink, sinkMem, memWrite_mem, transferred_mem hb, transferred_rx hb, transferred_i hb,
    latch_of_outline (transferred_outline hb s), hregs]

/-- A position whose sink drops the word leaves memory. -/
theorem position_drops (hb : RunsEngine i b) (hsink : ∀ s, b.sink s = sinkDiscard s) (s : State) :
    (s.position b).mem = s.mem := by
  change (b.sink (s.transferred b)).mem = _
  rw [hsink]
  exact transferred_mem hb s

end

/-! ## The steps of a position -/

/-- The `m` next samples are listed, and all that are show no error and both ready flags. -/
structure Answers (s : State) (m : Nat) : Prop where
  enough : m ≤ s.env.samples.length
  clean  : ∀ x ∈ s.env.samples, errclass x = .none ∧ x.txrdy = true ∧ x.rxrdy = true

/-- Cutting a sample to the generation's flags leaves those that a poll looks at. -/
theorem sampleOf_polled (g : Gen) (x : Sample) : errclass (sampleOf g x) = errclass x
    ∧ (sampleOf g x).txrdy = x.txrdy ∧ (sampleOf g x).rxrdy = x.rxrdy := by
  cases g <;> exact ⟨rfl, rfl, rfl⟩

section
variable {i : Instr} {b : BlkSpec} {s t : State} {m : Nat}

theorem Answers.next (h : Answers s (m + 1)) :
    errclass s.coming = .none ∧ s.coming.txrdy = true ∧ s.coming.rxrdy = true := by
  obtain ⟨x, xs, hs⟩ := List.exists_cons_of_length_pos (Nat.zero_lt_of_lt h.enough)
  have hx : s.coming = sampleOf s.params.gen x := by rw [State.coming, Env.nextSample, hs]
  obtain ⟨he, ht, hr⟩ := sampleOf_polled s.params.gen x
  rw [hx, he, ht, hr]
  exact h.clean x (hs ▸ List.mem_cons_self)

theorem Answers.of_env (h : Answers s m) (he : t.env = s.env) : Answers t m :=
  ⟨he ▸ h.enough, he ▸ h.clean⟩

theorem Answers.drop (k : Nat) (h : Answers s (m + k))
    (ht : t.env.samples = s.env.samples.drop k) : Answers t m := by
  refine ⟨?_, fun x hx => h.clean x (List.mem_of_mem_drop (ht ▸ hx))⟩
  have hlen := h.enough
  rw [ht, List.length_drop]
  omega

theorem Answers.afterSample (h : Answers s (m + 1)) (ht : t.env = s.env.afterSample) :
    Answers t m :=
  h.drop 1 (ht ▸ List.drop_one.symm)

/-- A poll whose sample is clean and ready goes on. -/
theorem pollFor_ready {flag : Sample → Bool} (he : errclass s.coming = .none)
    (hf : flag s.coming = true) (here : Label) (l : BlkLabel) :
    pollFor flag here (.blk l) s = s.polled l := by
  rw [pollFor_clean he, if_pos hf]
  rfl

theorem RunsEngine.step (hb : RunsEngine i b) {l : BlkLabel} (hat : At s i (.blk l))
    (h : blkStep b l s = t) : Runs i s t :=
  .step hat ((hb.prog l s).trans (congrArg some h))

theorem runs_fetched (hb : RunsEngine i b) (hat : At s i (.blk .l1)) (hne : s.vars.i ≠ s.vars.n) :
    Runs i s (s.fetched b) := by
  have hat2 : At (s.goto (.blk .l2)) i (.blk .l2) := at_of_outline hat rfl rfl
  exact (hb.step hat (by rw [blkStep, if_neg hne])).trans (hb.step hat2 rfl)

theorem runs_sent (hb : RunsEngine i b) (hat : At s i (.blk .t0)) (h : Answers s (m + 1)) :
    Runs i s s.sent := by
  obtain ⟨he, htx, -⟩ := h.next
  have hat1 : At (s.polled .t1) i (.blk .t1) := at_of_outline hat rfl rfl
  exact (hb.step hat (pollFor_ready he htx _ _)).trans (hb.step hat1 rfl)

/-- T2 to T4: the poll of T3 is taken at T2's label where T2 takes no step. -/
theorem runs_received (hb : RunsEngine i b) (hat : At s i (.blk .t2)) (h : Answers s (m + 1)) :
    Runs i s s.started.received := by
  have hs := started_aside s
  obtain ⟨he, -, hrx⟩ := (h.of_env hs.env).next
  have hpoll : blkT3 s.started = s.started.polled .t4 := pollFor_ready he hrx _ _
  have hpolled : Runs i s (s.started.polled .t4) := by
    by_cases hw : StartsWord s
    · have h2 : s.started = (s.fieldWrite [.start 1]).goto (.blk .t3) := if_pos hw
      have hat3 : At s.started i (.blk .t3) := at_of_outline hat hs.outline (h2 ▸ rfl)
      exact (hb.step hat ((blkT2_start hw).trans h2.symm)).trans (hb.step hat3 hpoll)
    · have h2 : s.started = s := if_neg hw
      exact hb.step hat ((blkT2_poll hw).trans ((congrArg blkT3 h2.symm).trans hpoll))
  have hat4 : At (s.started.polled .t4) i (.blk .t4) := at_of_outline hat hs.outline rfl
  exact hpolled.trans (hb.step hat4 rfl)

/-- The steps of a position, back to L1 (R178). -/
theorem runs_position (hb : RunsEngine i b) (hat : At s i (.blk .l1))
    (hne : s.vars.i ≠ s.vars.n) (h : Answers s (m + 2)) : Runs i s (s.position b) := by
  have hfetched := fetched_aside hb s
  have hall := transferred_outline hb s
  have hat0 : At (s.fetched b) i (.blk .t0) := at_of_outline hat hfetched.outline rfl
  have h0 : Answers (s.fetched b) (m + 2) := h.of_env hfetched.env
  have hat2 : At (s.fetched b).sent i (.blk .t2) := at_of_outline hat0 (sent_outline _) rfl
  have h2 : Answers (s.fetched b).sent (m + 1) := h0.afterSample (sent_env _)
  have hat4 : At (s.transferred b) i (.blk .l4) := at_of_outline hat hall rfl
  have hat5 : At ((s.transferred b).sunk b) i (.blk .l5) :=
    at_of_outline hat4 (sunk_aside hb _).outline rfl
  exact (runs_fetched hb hat hne).trans <| (runs_sent hb hat0 h0).trans <|
    (runs_received hb hat2 h2).trans <| (hb.step hat4 rfl).trans (hb.step hat5 rfl)

end

/-! ## The loop -/

/-- After `j` positions. -/
def State.looped (b : BlkSpec) : Nat → State → State
  | 0, s => s
  | j + 1, s => (s.looped b j).position b

section
variable {i : Instr} {b : BlkSpec} {s : State}

theorem looped_outline (hb : RunsEngine i b) (s : State) (j : Nat) :
    (s.looped b j).outline = s.outline := by
  induction j with
  | zero => rfl
  | succ j ih => rw [State.looped, position_outline hb, ih]

theorem looped_i (hb : RunsEngine i b) (hi : s.vars.i = 0) (j : Nat) :
    (s.looped b j).vars.i = BitVec.ofNat 32 j := by
  induction j with
  | zero => exact hi
  | succ j ih => rw [State.looped, position_i hb, ih, BitVec.ofNat_add]; rfl

theorem looped_n (hb : RunsEngine i b) (s : State) (j : Nat) :
    (s.looped b j).vars.n = s.vars.n := by
  induction j with
  | zero => rfl
  | succ j ih => rw [State.looped, position_n hb, ih]

theorem looped_samples (hb : RunsEngine i b) (s : State) (j : Nat) :
    (s.looped b j).env.samples = s.env.samples.drop (2 * j) := by
  induction j with
  | zero => rfl
  | succ j ih =>
    rw [State.looped, position_env hb]
    change (s.looped b j).env.samples.tail.tail = _
    rw [ih, List.tail_drop, List.tail_drop]
    rfl

theorem looped_reads (hb : RunsEngine i b) (s : State) (j : Nat) :
    (s.looped b j).env.reads = s.env.reads.drop j := by
  induction j with
  | zero => rfl
  | succ j ih =>
    rw [State.looped, position_env hb]
    change (s.looped b j).env.reads.tail = _
    rw [ih, List.tail_drop]

theorem looped_at (hb : RunsEngine i b) (hat : At s i (.blk .l1)) (j : Nat) :
    At (s.looped b j) i (.blk .l1) := by
  cases j with
  | zero => exact hat
  | succ j => exact at_of_outline hat (looped_outline hb s (j + 1)) rfl

theorem runs_looped (hb : RunsEngine i b) (hat : At s i (.blk .l1)) (hi : s.vars.i = 0)
    (h : Answers s (2 * s.vars.n.toNat)) {j : Nat} (hj : j ≤ s.vars.n.toNat) :
    Runs i s (s.looped b j) := by
  induction j with
  | zero => exact .refl i s
  | succ j ih =>
    have hlt := s.vars.n.isLt
    have hne : (s.looped b j).vars.i ≠ (s.looped b j).vars.n := by
      rw [looped_i hb hi, looped_n hb, ne_eq, ← BitVec.toNat_inj, BitVec.toNat_ofNat]
      omega
    have hanswers : Answers (s.looped b j) (2 * (s.vars.n.toNat - j - 1) + 2) := by
      refine Answers.drop (2 * j) ?_ (looped_samples hb s j)
      exact ⟨by have := h.enough; omega, h.clean⟩
    exact (ih (by omega)).trans (runs_position hb (looped_at hb hat j) hne hanswers)

/-- The state in which a blocking command ends from L0, every sample clean and ready. -/
def State.blocked (b : BlkSpec) (s : State) : State := (blkL0 b s).looped b (b.len s).toNat

theorem blocked_outline (hb : RunsEngine i b) (s : State) : (s.blocked b).outline = s.outline :=
  looped_outline hb (blkL0 b s) _

theorem blocked_i (hb : RunsEngine i b) (s : State) : (s.blocked b).vars.i = b.len s := by
  rw [State.blocked, looped_i hb rfl, BitVec.ofNat_toNat, BitVec.setWidth_eq]

theorem blocked_n (hb : RunsEngine i b) (s : State) : (s.blocked b).vars.n = b.len s :=
  looped_n hb (blkL0 b s) _

/-- The command runs through all its positions and ends with OK. -/
theorem runs_blocked (hb : RunsEngine i b) (hi : i ≠ .deinit) (hat : At s i (.blk .l0))
    (h : Answers s (2 * positions i s.regs)) :
    Runs i s ((s.blocked b).endedWith .ok .idle) := by
  rw [← hb.len] at h
  have hat1 : At (blkL0 b s) i (.blk .l1) := at_of_outline hat rfl rfl
  have hloop : Runs i (blkL0 b s) (s.blocked b) :=
    runs_looped hb hat1 rfl ⟨h.1, h.2⟩ (Nat.le_refl _)
  have hatEnd : At (s.blocked b) i (.blk .l1) := looped_at hb hat1 _
  have hlast : blkStep b .l1 (s.blocked b) = (s.blocked b).goto (.blk .fin) := by
    rw [blkStep, if_pos ((blocked_i hb s).trans (blocked_n hb s).symm)]
  have hatFin : At ((s.blocked b).goto (.blk .fin)) i (.blk .fin) := at_of_outline hatEnd rfl rfl
  obtain ⟨-, -, hlatch⟩ := at_iff.1 hatFin
  exact (hb.step hat rfl).trans <| hloop.trans <| (hb.step hatEnd hlast).trans
    (hb.step hatFin (complete_eq_endedWith hlatch hi .ok))

/-- The loop counts its positions in `XCOUNT` (R181). -/
theorem looped_xcount (hx : s.regs.xcount = s.vars.i) (j : Nat) :
    (s.looped b j).regs.xcount = (s.looped b j).vars.i := by
  cases j with
  | zero => exact hx
  | succ j => exact position_xcount b _

/-- Each position adds one write and one read of the data registers (R180). -/
theorem looped_dataAccess (hb : RunsEngine i b) (s : State) (j : Nat) :
    (s.looped b j).dataEvents.filterMap dataAccess = s.dataEvents.filterMap dataAccess
      ++ (List.replicate j [true, false]).flatten := by
  induction j with
  | zero => exact (List.append_nil _).symm
  | succ j ih =>
    rw [State.looped, position_dataEvents hb, List.filterMap_append, ih, List.replicate_succ',
      List.flatten_append, List.append_assoc]
    rfl

/-- A command whose sink drops every word leaves memory. -/
theorem looped_drops (hb : RunsEngine i b) (hsink : ∀ s, b.sink s = sinkDiscard s) (s : State)
    (j : Nat) : (s.looped b j).mem = s.mem := by
  induction j with
  | zero => rfl
  | succ j ih => rw [State.looped, position_drops hb hsink, ih]

end

/-- Settles O30: the state in which the loop ends (`runs_blocked`), by its outline, its count and
its data-register accesses. -/
theorem blockingLoopCompletes : Obligations.BlockingLoopCompletes := by
  unfold Obligations.BlockingLoopCompletes
  intro s i hi hat hx hlen hclean
  obtain ⟨b, hb⟩ := runsEngine hi
  obtain ⟨k, hk⟩ := runs_blocked hb (isBlocking_ne_deinit hi) hat ⟨hlen, hclean⟩
  have hout := blocked_outline hb s
  have hcount : (s.blocked b).regs.xcount = b.len s :=
    (looped_xcount (s := blkL0 b s) hx _).trans (blocked_i hb s)
  refine ⟨k, _, hk, ?_, rfl, ?_, (regs_of_outline hout :), ?_, (ctl_of_outline hout :),
    congrArg (fun u => u.curWidth) hout, congrArg (fun u => u.params) hout,
    (latch_of_outline hout :), congrArg (fun u => u.join) hout, congrArg (fun u => u.txch) hout,
    congrArg (fun u => u.rxch) hout, congrArg (fun u => u.clkOn) hout,
    congrArg (fun u => u.pins) hout⟩
  · rw [← status_of_outline hout]
    rfl
  · rw [← hb.len, ← hcount]
    rfl
  · have hdata := looped_dataAccess hb (blkL0 b s) (b.len s).toNat
    rw [dataEvents_filterMap fun _ h => h, dataEvents_filterMap fun _ h => h] at hdata
    rw [← hb.len s]
    exact hdata

/-! ## What BLK_WRITE sends -/

/-- Element `j` of a buffer at `a` (R66). -/
def Memory.element (m : Memory) (a : Word) (sz j : Nat) : Word :=
  BitVec.ofNat 32 (m.load (BitVec.ofNat 32 (a.toNat + j * sz)) sz)

/-- The address of an element, from its number. -/
theorem elemAddr_ofNat (a : Word) (j sz : Nat) :
    elemAddr a (BitVec.ofNat 32 j) sz = BitVec.ofNat 32 (a.toNat + j * sz) := by
  simp [elemAddr, BitVec.ofNat_add, BitVec.ofNat_mul]

theorem fetched_blkWrite (s : State) : (s.fetched blkWriteSpec).vars.tx = BitVec.ofNat 32
    (s.mem.load (elemAddr s.regs.txaddr s.vars.i s.latch.sz) s.latch.sz) := rfl

/-- BLK_WRITE sends one element a position. -/
theorem looped_sentWord {i : Instr} (hb : RunsEngine i blkWriteSpec) (s : State)
    (hi : s.vars.i = 0) (j : Nat) :
    (s.looped blkWriteSpec j).dataEvents.filterMap sentWord = s.dataEvents.filterMap sentWord
      ++ (List.range j).map fun j => (s.latch.sz, s.mem.element s.regs.txaddr s.latch.sz j) := by
  induction j with
  | zero => exact (List.append_nil _).symm
  | succ j ih =>
    have hout := looped_outline hb s j
    have htx : ((s.looped blkWriteSpec j).fetched blkWriteSpec).vars.tx
        = s.mem.element s.regs.txaddr s.latch.sz j := by
      rw [fetched_blkWrite, looped_drops hb (fun _ => rfl), regs_of_outline hout,
        latch_of_outline hout, looped_i hb hi, elemAddr_ofNat]
      rfl
    rw [State.looped, position_dataEvents hb, List.filterMap_append, ih, List.range_succ,
      List.map_append, List.append_assoc, htx, latch_of_outline hout]
    rfl

/-- Settles O31: the words of the loop's data-register writes (`looped_sentWord`). -/
theorem blockingWriteSendsTheBuffer : Obligations.BlockingWriteSendsTheBuffer := by
  unfold Obligations.BlockingWriteSendsTheBuffer
  intro s n hat hlen hclean element
  have hb := runsEngine_blkWrite n
  obtain ⟨k, hk⟩ := runs_blocked hb nofun hat ⟨hlen, hclean⟩
  refine ⟨k, _, hk, rfl, rfl, ?_, looped_drops hb (fun _ => rfl) (blkL0 blkWriteSpec s) _⟩
  have hsent := looped_sentWord hb (blkL0 blkWriteSpec s) rfl s.regs.txlen.toNat
  rw [dataEvents_filterMap sentWord_none, dataEvents_filterMap sentWord_none] at hsent
  exact hsent

/-! ## What BLK_READ and BLK_XFER_IP store -/

theorem lowBytes_toNat (sz : Nat) (v : Word) :
    (lowBytes sz v).toNat = v.toNat % 2 ^ (8 * sz) := by
  have hlt : v.toNat % 2 ^ (8 * sz) < 2 ^ 32 := Nat.lt_of_le_of_lt (Nat.mod_le _ _) v.isLt
  rw [lowBytes, BitVec.toNat_ofNat, Nat.mod_eq_of_lt hlt]

/-- A store leaves an element whose bytes are all others. -/
theorem load_store_other {m : Memory} (hm : m.wf) {a c : Word} {sz : Nat} (v : Nat)
    (h : ∀ j < sz, ∀ k < sz, (c.toNat + j) % 2 ^ 32 ≠ (a.toNat + k) % 2 ^ 32) :
    (m.store a sz v).load c sz = m.load c sz := by
  rw [load_eq_sum, load_eq_sum]
  refine congrArg List.sum (List.map_congr_left fun j hj => ?_)
  rw [read_store_other hm a sz v _ fun k hk => byteAddr_toNat a k ▸ h j (List.mem_range.1 hj) k hk]

/-- Bytes of two elements of a buffer no longer than the address space (R9, R66). -/
theorem element_bytes_ne {a sz i j len c d : Nat} (hij : i < j) (hj : j < len)
    (hfit : len * sz ≤ 2 ^ 32) (hc : c < sz) (hd : d < sz) :
    (a + i * sz + c) % 2 ^ 32 ≠ (a + j * sz + d) % 2 ^ 32 := by
  have h1 : (i + 1) * sz ≤ j * sz := Nat.mul_le_mul_right sz hij
  have h2 : (j + 1) * sz ≤ len * sz := Nat.mul_le_mul_right sz hj
  rw [Nat.add_mul, Nat.one_mul] at h1 h2
  omega

/-- `m` is the memory `m₀` whose first `n` elements of `sz` bytes from `a` up have become the words
`vs`, cut to their size. -/
structure Filled (m₀ : Memory) (a sz : Nat) (vs : List Word) (n : Nat) (m : Memory) : Prop where
  wf     : m.wf
  elems  : ∀ j < n, ∃ v, vs[j]? = some v ∧
    m.load (BitVec.ofNat 32 (a + j * sz)) sz = v.toNat % 2 ^ (8 * sz)
  others : ∀ b, (∀ j < n, ∀ k < sz, b ≠ (a + j * sz + k) % 2 ^ 32) → m.read b = m₀.read b

section
variable {m₀ m : Memory} {a sz n len : Nat} {vs : List Word} {v : Word}

theorem Filled.zero (h : m₀.wf) : Filled m₀ a sz vs 0 m₀ := ⟨h, nofun, fun _ _ => rfl⟩

/-- One more element is stored. -/
theorem Filled.store (h : Filled m₀ a sz vs n m) (hv : vs[n]? = some v) (hsz : sz ≤ 4)
    (hn : n < len) (hfit : len * sz ≤ 2 ^ 32) : Filled m₀ a sz vs (n + 1)
      (m.store (BitVec.ofNat 32 (a + n * sz)) sz (lowBytes sz v).toNat) := by
  have hbyte (j k : Nat) : ((BitVec.ofNat 32 (a + j * sz)).toNat + k) % 2 ^ 32
      = (a + j * sz + k) % 2 ^ 32 := by rw [BitVec.toNat_ofNat, Nat.mod_add_mod]
  refine ⟨wf_store h.wf _ _ _, fun j hj => ?_, fun b hb => ?_⟩
  · rcases Nat.lt_succ_iff_lt_or_eq.1 hj with hlt | rfl
    · obtain ⟨w, hw, hload⟩ := h.elems j hlt
      refine ⟨w, hw, (load_store_other h.wf _ fun c hc d hd => ?_).trans hload⟩
      rw [hbyte, hbyte]
      exact element_bytes_ne hlt hn hfit hc hd
    · refine ⟨v, hv, ?_⟩
      rw [load_store_same h.wf _ (by omega), lowBytes_toNat, Nat.mod_mod]
  · rw [read_store_other h.wf _ _ _ _ fun k hk => ?_]
    · exact h.others b fun j hj => hb j (by omega)
    · rw [byteAddr_toNat, hbyte]
      exact hb n (by omega) k hk

end

theorem nextData_of_reads {e : Env} {v : Word} (h : e.reads.head? = some v) : e.nextData = v := by
  obtain ⟨vs, hvs⟩ := List.head?_eq_some_iff.1 h
  rw [Env.nextData, hvs]

/-- A command whose sink stores every word fills the receive buffer. -/
theorem looped_filled {i : Instr} {b : BlkSpec} (hb : RunsEngine i b)
    (hsink : ∀ s, b.sink s = sinkMem s) {s : State} (hi : s.vars.i = 0) (hm : s.mem.wf)
    (hsz : s.latch.sz ≤ 4) {len : Nat} (hfit : len * s.latch.sz ≤ 2 ^ 32)
    (hreads : len ≤ s.env.reads.length) {j : Nat} (hj : j ≤ len) :
    Filled s.mem s.regs.rxaddr.toNat s.latch.sz s.env.reads j (s.looped b j).mem := by
  induction j with
  | zero => exact .zero hm
  | succ j ih =>
    have hout := looped_outline hb s j
    have hv : s.env.reads[j]? = some s.env.reads[j] := List.getElem?_eq_getElem (by omega)
    have hnext : (s.looped b j).env.afterSample.afterSample.nextData = s.env.reads[j] := by
      apply nextData_of_reads
      change (s.looped b j).env.reads.head? = _
      rw [looped_reads hb, List.head?_drop, hv]
    rw [State.looped, position_stores hb hsink, hnext, looped_i hb hi,
      regs_of_outline hout, latch_of_outline hout, elemAddr_ofNat]
    exact (ih (by omega)).store hv hsz hj hfit

/-- Settles O32: the loop fills the buffer (`looped_filled`), for the two commands whose sink stores
every word. -/
theorem blockingReadFillsTheBuffer : Obligations.BlockingReadFillsTheBuffer := by
  unfold Obligations.BlockingReadFillsTheBuffer
  intro s i hi hat hm hsz hfit hlen hreads hclean elem
  obtain ⟨b, hb, hsink, hne, hpos⟩ : ∃ b, RunsEngine i b ∧ (∀ s, b.sink s = sinkMem s)
      ∧ i ≠ .deinit ∧ positions i s.regs = s.regs.rxlen.toNat := by
    rcases hi with ⟨n, rfl | rfl⟩
    · exact ⟨_, runsEngine_blkRead n, fun _ => rfl, nofun, rfl⟩
    · exact ⟨_, runsEngine_blkXferIp n, fun _ => rfl, nofun, rfl⟩
  obtain ⟨k, hk⟩ := runs_blocked hb hne hat ⟨hpos ▸ hlen, hclean⟩
  have hfilled := looped_filled hb hsink (s := blkL0 b s) rfl hm hsz hfit hreads (Nat.le_refl _)
  rw [← hpos, ← hb.len s] at hfilled
  rw [← hpos, ← hb.len s]
  exact ⟨k, _, hk, rfl, rfl, hfilled.elems, hfilled.others⟩

end Sys2Proof.Machine
end

section
/-! SUPPORT. The DMA commands and FINISH, line by line (R200 to R218, R235): what a DMA command fixes,
its first step, its start sequence, the join, `FinishDma`, and how it may end. -/

namespace Sys2Proof.Machine

/-! ## The engine -/

/-- What the DMA command `i` fixes of the DMA engine (R200, R201, R206, R212 to R215). -/
structure RunsDma (i : Instr) (d : DmaSpec) : Prop where
  prog    : ∀ l s, progOf i (.dma l) s = some (dmaStep d l s)
  rx      : d.rx = usesRxChannel i
  lengths : ∀ s, d.lengthsMatch s = false → s.regs.txlen ≠ s.regs.rxlen ∧ ∃ n, i = .dmaXfer n
  /-- The transmit buffer is one of the two that the host has set. -/
  txMem   : ∀ s t, t.regs.txaddr = s.regs.txaddr → t.regs.rxaddr = s.regs.rxaddr →
    d.txMem t = d.txMem s

theorem runsDma_write (n : Nat) : RunsDma (.dmaWrite n) dmaWriteSpec :=
  ⟨fun _ _ => rfl, rfl, fun _ h => (by cases h), fun _ _ htx _ => congrArg MemSide.addr htx⟩

theorem runsDma_read (n : Nat) : RunsDma (.dmaRead n) dmaReadSpec :=
  ⟨fun _ _ => rfl, rfl, fun _ h => (by cases h), fun _ _ _ _ => rfl⟩

theorem runsDma_xferIp (n : Nat) : RunsDma (.dmaXferIp n) dmaXferIpSpec :=
  ⟨fun _ _ => rfl, rfl, fun _ h => (by cases h), fun _ _ _ hrx => congrArg MemSide.addr hrx⟩

theorem dmaXferSpec_lengths (s : State) :
    dmaXferSpec.lengthsMatch s = true ↔ s.regs.rxlen = s.regs.txlen := beq_iff_eq

theorem runsDma_xfer (n : Nat) : RunsDma (.dmaXfer n) dmaXferSpec := by
  refine ⟨fun _ _ => rfl, rfl, fun s h => ⟨fun he => ?_, n, rfl⟩,
    fun _ _ htx _ => congrArg MemSide.addr htx⟩
  rw [(dmaXferSpec_lengths s).2 he.symm] at h
  cases h

/-- Every DMA command runs the DMA engine. -/
theorem runsDma {i : Instr} (hi : isDma i = true) : ∃ d, RunsDma i d := by
  cases i with
  | dmaWrite n => exact ⟨_, runsDma_write n⟩
  | dmaRead n => exact ⟨_, runsDma_read n⟩
  | dmaXfer n => exact ⟨_, runsDma_xfer n⟩
  | dmaXferIp n => exact ⟨_, runsDma_xferIp n⟩
  | _ => cases hi

theorem isDma_ne_deinit {i : Instr} (hi : isDma i = true) : i ≠ .deinit := by
  rintro rfl
  cases hi

section
variable {i : Instr} {d : DmaSpec} {s : State}

theorem RunsDma.exec_at (hd : RunsDma i d) {l : DmaLabel} (hat : At s i (.dma l)) :
    exec i s = .next (dmaStep d l s) := Machine.exec_at hat (hd.prog l s)

/-- The transmit descriptor depends on the parameters, `N`, the latches and the buffers only. -/
theorem RunsDma.txDesc_eq {t : State} (hd : RunsDma i d) (hp : t.params = s.params)
    (hn : t.vars.n = s.vars.n) (hk : t.latch = s.latch) (htx : t.regs.txaddr = s.regs.txaddr)
    (hrx : t.regs.rxaddr = s.regs.rxaddr) : txDesc d t = txDesc d s := by
  rw [txDesc, hp, hn, hk, hd.txMem s t htx hrx, txDesc]

/-! ## The first step -/

theorem dmaM0_unequal (h : d.lengthsMatch s = false) : dmaM0 d s = s.raiseFatal .lenMismatch :=
  if_pos h

theorem dmaM0_equal (h : d.lengthsMatch s = true) : dmaM0 d s =
    if d.len s = 0 then { s with vars := { s.vars with n := 0 } }.complete .ok
    else { s with vars := { s.vars with n := d.len s } }.goto (.dma (.m1 .w0)) :=
  if_neg (by rw [h]; nofun)

/-- With equal lengths M0 completes a command of length 0 and starts any other (R200, R218). -/
theorem RunsDma.exec_m0 (hd : RunsDma i d) (hi : isDma i = true) (hat : At s i (.dma .m0))
    (hm : d.lengthsMatch s = true) : exec i s =
      if d.len s = 0 then .next ({ s with vars := { s.vars with n := 0 } }.endedWith .ok .idle)
      else .next { s with
        vars := { s.vars with n := d.len s }, mpc := some (.dma (.m1 .w0)) } := by
  obtain ⟨-, -, hlatch⟩ := at_iff.1 hat
  rw [hd.exec_at hat, dmaStep, dmaM0_equal hm]
  split
  · exact congrArg _ (complete_eq_endedWith (s := { s with vars := { s.vars with n := 0 } })
      hlatch (isDma_ne_deinit hi) .ok)
  · rfl

end

/-- Settles O34: only DMA_XFER has lengths that can differ; the rest is `RunsDma.exec_m0`. -/
theorem dmaChecksLengthsFirst : Obligations.DmaChecksLengthsFirst := by
  unfold Obligations.DmaChecksLengthsFirst
  intro s n fatal start
  have hx := runsDma_xfer n
  refine ⟨fun hat => (runsDma_write n).exec_m0 rfl hat rfl,
    fun hat => (runsDma_read n).exec_m0 rfl hat rfl,
    fun hat => (runsDma_xferIp n).exec_m0 rfl hat rfl,
    fun hat heq => hx.exec_m0 rfl hat ((dmaXferSpec_lengths s).2 heq), fun hat hne => ?_⟩
  have hm : dmaXferSpec.lengthsMatch s = false :=
    Bool.eq_false_iff.2 fun h => hne ((dmaXferSpec_lengths s).1 h)
  rw [hx.exec_at hat, dmaStep, dmaM0_unequal hm]
  rfl

/-! ## The start sequence -/

/-- The events from M4 to the join, with transmit descriptor `txd` (R202). -/
def State.startEvents (s : State) (rx : Bool) (txd : Desc) : List Event :=
  (if rx then [Event.fw [.rxdmaen 1], Event.ds .rx (rxDesc s)] else [])
    ++ [Event.ds .tx txd, Event.fw [.txdmaen 1], Event.fw [.en 1]]
    ++ (if s.params.gen = .gen3 then [Event.fw [.start 1]] else [])

/-- The state at the join, from M4 (R202 to R206). -/
def State.dmaStarted (s : State) (rx : Bool) (txd : Desc) : State :=
  { s with
    status := { s.status with fsm := .waitDma }
    mpc := some (.dma .m11)
    join := { s.join with
      txsub := true, txdone := false
      rxsub := if rx then true else s.join.rxsub
      rxdone := if rx then false else s.join.rxdone }
    ctl := { s.ctl with
      en := 1, txdmaen := 1
      rxdmaen := if rx then 1 else s.ctl.rxdmaen
      start := if s.params.gen = .gen3 then 1 else s.ctl.start }
    txch := some ⟨txd, []⟩
    rxch := if rx then some ⟨rxDesc s, []⟩ else s.rxch
    journal := s.journal ++ (s.startEvents rx txd).map .event }

/-- The request and the submission of the receive transfer come before the rest. -/
theorem dmaStarted_rx (s : State) (txd : Desc) :
    ((s.fieldWrite [.rxdmaen 1]).dmaSubmit .rx (rxDesc s)).dmaStarted false txd
      = s.dmaStarted true txd := by
  by_cases hg : s.params.gen = .gen3 <;>
    simp [hg, State.dmaStarted, State.startEvents, assignFields, assignField]

theorem dmaStarted_trace (s : State) (rx : Bool) (txd : Desc) :
    (s.dmaStarted rx txd).trace = s.trace ++ s.startEvents rx txd := trace_of_journal rfl

section
variable {i : Instr} {d : DmaSpec}

/-- M9 and M10. -/
theorem dmaM9_ends (hd : RunsDma i d) : Ends i dmaM9 (fun s => if s.params.gen = .gen3
    then dmaM10 (s.fieldWrite [.start 1]) else dmaM10 s) := by
  have h10 : Ends i dmaM10 dmaM10 := .last i fun _ _ => rfl
  have hstart := h10.after (·.fieldWrite [.start 1]) (.dma .m10) (fun _ _ => ⟨rfl, rfl, rfl⟩)
    fun s => hd.prog .m10 s
  exact hstart.ite h10 (fun s => s.params.gen = .gen3) fun _ _ => .rfl

/-- M6 to M10. -/
theorem dmaM6_ends (hd : RunsDma i d) :
    Ends i (dmaM6 d) (fun s => s.dmaStarted false (txDesc d s)) := by
  have h8 := (dmaM9_ends hd).after (·.fieldWrite [.en 1]) (.dma .m9) (fun _ _ => ⟨rfl, rfl, rfl⟩)
    fun s => hd.prog .m9 s
  have h7 := h8.after (·.fieldWrite [.txdmaen 1]) (.dma .m8) (fun _ _ => ⟨rfl, rfl, rfl⟩)
    fun s => hd.prog .m8 s
  have h6 := h7.after (fun s => s.dmaSubmit .tx (txDesc d s)) (.dma .m7)
    (fun s l => ⟨rfl, rfl, by rw [hd.txDesc_eq (s := s) (t := s.goto l) rfl rfl rfl rfl rfl]; rfl⟩)
    fun s => hd.prog .m7 s
  refine h6.congr fun s => ?_
  by_cases hg : s.params.gen = .gen3 <;>
    simp [hg, State.dmaStarted, State.startEvents, dmaM10, State.goto, State.fieldWrite,
      State.dmaSubmit, State.emit, State.record, assignFields, assignField]

/-- M4 to M10. -/
theorem dmaM4_ends (hd : RunsDma i d) :
    Ends i (dmaM4 d) (fun s => s.dmaStarted (usesRxChannel i) (txDesc d s)) := by
  have h6 := dmaM6_ends hd
  have hsubmit := h6.after (fun s => s.dmaSubmit .rx (rxDesc s)) (.dma .m6)
    (fun _ _ => ⟨rfl, rfl, rfl⟩) fun s => hd.prog .m6 s
  have h5 : Ends i (dmaM5 d) _ := hsubmit.ite h6 (fun _ => d.rx = true) fun _ _ => .rfl
  have hrequest := h5.after (·.fieldWrite [.rxdmaen 1]) (.dma .m5)
    (fun _ _ => ⟨rfl, rfl, rfl⟩) fun s => hd.prog .m5 s
  refine (hrequest.ite h5 (fun _ => d.rx = true) fun _ _ => .rfl).congr fun s => ?_
  rw [hd.rx]
  cases usesRxChannel i with
  | false => rfl
  | true =>
    have htxd : txDesc d ((s.fieldWrite [.rxdmaen 1]).dmaSubmit .rx (rxDesc s)) = txDesc d s :=
      hd.txDesc_eq rfl rfl rfl rfl rfl
    exact (congrArg _ htxd).trans (dmaStarted_rx s _)

end

section
variable {i : Instr} {d : DmaSpec} {s : State}

/-- M2 runs at its own label and, where the width does not change, at that of M1 (R155). -/
theorem RunsDma.prog_m2 (hd : RunsDma i d) {l : Label}
    (hl : l = .dma .m2 ∨ l = .dma (.m1 .w0) ∧ s.latch.n = s.curWidth) :
    progOf i l s = some (dmaM2 s) := by
  rcases hl with rfl | ⟨rfl, hw⟩
  · exact hd.prog .m2 s
  · exact (hd.prog (.m1 .w0) s).trans (congrArg some (if_pos hw))

/-- M3 takes no step without the receive channel (R203), nor on GEN3 (R171). -/
theorem RunsDma.prog_m3_skip (hd : RunsDma i d)
    (h : ¬(usesRxChannel i = true ∧ s.params.gen ≠ .gen3)) :
    progOf i (.dma (.m3 .dr0)) s = some (dmaM4 d s) := by
  rw [hd.prog, dmaStep, dmaM3, hd.rx]
  split
  · next hrx => rw [drain_gen3 (not_not.1 fun hg => h ⟨hrx, hg⟩)]
  · rfl

/-- Elsewhere it samples, and goes on to M4 if the sample shows no received word. -/
theorem RunsDma.prog_m3_sample (hd : RunsDma i d) (hrx : usesRxChannel i = true)
    (hg : s.params.gen ≠ .gen3) (hempty : s.coming.rxrdy = false) :
    progOf i (.dma (.m3 .dr0)) s = some (s.statusSample.goto (.dma .m4)) := by
  rw [hd.prog, dmaStep, dmaM3, hd.rx, if_pos hrx, drain_sample hg, hempty]
  rfl

theorem dmaM2_trace (s : State) : (dmaM2 s).trace = s.trace ++ [.fw [.en 0]] := trace_append rfl

/-- A sample keeps the peripheral's receive-ready flag (R43). -/
theorem coming_rxrdy (s : State) : s.coming.rxrdy = s.env.nextSample.rxrdy := by
  unfold State.coming sampleOf
  split <;> rfl

/-- From M2 to the join, where the drain does not sample. -/
theorem RunsDma.start_undrained (hd : RunsDma i d) {l : Label} (hat : At s i l)
    (hp : progOf i l s = some (dmaM2 s))
    (h : ¬(usesRxChannel i = true ∧ s.params.gen ≠ .gen3)) :
    ∃ k, execN i k s = .next ((dmaM2 s).dmaStarted (usesRxChannel i) (txDesc d s)) := by
  have h3 : At (dmaM2 s) i (.dma (.m3 .dr0)) := at_goto hat rfl rfl _
  obtain ⟨k, hk⟩ := (dmaM4_ends hd).run _ _ h3 (hd.prog_m3_skip h)
  exact ⟨k + 1, by
    rw [execN_at hat hp, hk, hd.txDesc_eq (s := s) (t := dmaM2 s) rfl rfl rfl rfl rfl]⟩

/-- From M2 to the join, where the drain takes one sample. -/
theorem RunsDma.start_drained (hd : RunsDma i d) {l : Label} (hat : At s i l)
    (hp : progOf i l s = some (dmaM2 s)) (hrx : usesRxChannel i = true)
    (hg : s.params.gen ≠ .gen3) (hempty : s.coming.rxrdy = false) : ∃ k, execN i k s
      = .next ((dmaM2 s).statusSample.dmaStarted (usesRxChannel i) (txDesc d s)) := by
  have h3 : At (dmaM2 s) i (.dma (.m3 .dr0)) := at_goto hat rfl rfl _
  have h4 : At ((dmaM2 s).statusSample.goto (.dma .m4)) i (.dma .m4) := at_goto h3 rfl rfl _
  obtain ⟨k, hk⟩ := (dmaM4_ends hd).run _ _ h4 (hd.prog .m4 _)
  refine ⟨k + 2, ?_⟩
  rw [execN_at hat hp, execN_at h3 (hd.prog_m3_sample hrx hg hempty), hk,
    (dmaM4_ends hd).anyLabel,
    hd.txDesc_eq (s := s) (t := (dmaM2 s).statusSample) rfl rfl rfl rfl rfl]

end

/-- Settles O35: the lines from M2 to the join (`RunsDma.start_drained`, `RunsDma.start_undrained`)
and the state they lead to (`State.dmaStarted`). -/
theorem dmaStartSequence : Obligations.DmaStartSequence := by
  unfold Obligations.DmaStartSequence
  intro s i src hat hsrc hempty rx drains rxd txd
  obtain ⟨d, hd, rfl⟩ : ∃ d, RunsDma i d ∧ d.txMem s = src := by
    rcases hsrc with ⟨⟨n, rfl | rfl⟩, rfl⟩ | ⟨⟨n, rfl⟩, rfl⟩ | ⟨⟨n, rfl⟩, rfl⟩
    · exact ⟨_, runsDma_write n, rfl⟩
    · exact ⟨_, runsDma_xfer n, rfl⟩
    · exact ⟨_, runsDma_read n, rfl⟩
    · exact ⟨_, runsDma_xferIp n, rfl⟩
  obtain ⟨l, hat, hp⟩ : ∃ l, At s i l ∧ progOf i l s = some (dmaM2 s) := by
    rcases hat with hat | ⟨hat, hw⟩
    · exact ⟨_, hat, hd.prog_m2 (.inl rfl)⟩
    · exact ⟨_, hat, hd.prog_m2 (.inr ⟨rfl, hw⟩)⟩
  by_cases hdr : drains
  · have ⟨hrx, hg⟩ := hdr
    obtain ⟨k, hk⟩ := hd.start_drained hat hp hrx hg ((coming_rxrdy s).trans (hempty hrx hg))
    simp only [if_pos hdr]
    refine ⟨k, _, hk, rfl, rfl, ?_, rfl, rfl, rfl, rfl, rfl, rfl, rfl, rfl, rfl⟩
    rw [dmaStarted_trace, trace_append (s := dmaM2 s) (e := .ss s.coming) rfl, dmaM2_trace,
      State.startEvents, ← List.append_assoc, ← List.append_assoc]
    rfl
  · obtain ⟨k, hk⟩ := hd.start_undrained hat hp hdr
    simp only [if_neg hdr, List.append_nil]
    refine ⟨k, _, hk, rfl, rfl, ?_, rfl, rfl, rfl, rfl, rfl, rfl, rfl, rfl, rfl⟩
    rw [dmaStarted_trace, dmaM2_trace, State.startEvents, ← List.append_assoc,
      ← List.append_assoc]
    rfl

/-! ## The join -/

/-- Settles O36: M11 goes on exactly where `Join()` holds (`joinHolds_iff`). -/
theorem joinWaitsForEveryChannel : Obligations.JoinWaitsForEveryChannel := by
  unfold Obligations.JoinWaitsForEveryChannel
  intro s i hi hat
  obtain ⟨d, hd⟩ := runsDma hi
  rw [hd.exec_at hat, dmaStep]
  refine ⟨fun ⟨htx, hrx⟩ => ?_, fun hopen => ?_⟩
  · have hj : joinHolds s.join = true := (joinHolds_iff _).2 ⟨by simpa using htx, by simpa using hrx⟩
    exact congrArg _ (if_pos hj)
  · have hj : ¬joinHolds s.join = true := fun h => by
      obtain ⟨htx, hrx⟩ := (joinHolds_iff _).1 h
      rcases hopen with ⟨hsub, hdone⟩ | ⟨hsub, hdone⟩
      · simp [hsub, hdone] at htx
      · simp [hsub, hdone] at hrx
    exact congrArg _ (if_neg hj)

/-! ## `FinishDma` -/

/-- The wait of FD0, generation by generation. -/
theorem ite_quiescent {α : Type} (g : Gen) (x : Sample) (a b : α) :
    (if quiescent g x = true then a else b)
      = if g = .gen3 then (if x.tc then a else b) else if x.bsy then b else a := by
  cases g with
  | gen3 => rfl
  | gen1 | gen2 => cases h : x.bsy <;> simp [quiescent, h]

/-- Settles O37: each caller runs `finishDma` at its labels, and completes with OK at the last. -/
theorem finishWaitsThenClears : Obligations.FinishWaitsThenClears := by
  unfold Obligations.FinishWaitsThenClears
  intro s i wrap last hcaller
  obtain ⟨hprog, hlast, hne⟩ : (∀ f, progOf i (wrap f) s = some (finishDma wrap last f s))
      ∧ progOf i last s = some (s.complete .ok) ∧ i ≠ .deinit := by
    rcases hcaller with ⟨hi, rfl, rfl⟩ | ⟨rfl, rfl, rfl⟩
    · obtain ⟨d, hd⟩ := runsDma hi
      exact ⟨fun f => hd.prog (.m12 f) s, hd.prog .m13 s, isDma_ne_deinit hi⟩
    · exact ⟨fun _ => rfl, rfl, nofun⟩
  refine ⟨fun hat => ?_, fun hat => exec_at hat (hprog .fd1), fun hat => exec_at hat (hprog .fd2),
    fun hat => ?_⟩
  · rw [exec_at hat (hprog .fd0), finishDma, ite_quiescent]
    rfl
  · obtain ⟨-, -, hlatch⟩ := at_iff.1 hat
    rw [exec_at hat hlast, complete_eq_endedWith hlatch hne]

/-! ## How a DMA command ends -/

/-- How a step of a DMA command goes on: to another label, not at all (the join), to completion with
OK, or to the fatal end of unequal lengths. -/
inductive DmaStepped (d : DmaSpec) (s : State) : State → Prop where
  | goes {u : State} (l : Label) : DmaStepped d s (u.goto l)
  | waits : DmaStepped d s s
  | completes {u : State} (hk : u.latch = s.latch) : DmaStepped d s (u.complete .ok)
  | fails (h : d.lengthsMatch s = false) : DmaStepped d s (s.raiseFatal .lenMismatch)

section
variable {i : Instr} {d : DmaSpec} {s t : State}

/-- A guarded line, and the line that runs in its place. -/
theorem DmaStepped.ite {u : State} {c : Prop} [Decidable c] (ht : DmaStepped d s t)
    (hu : DmaStepped d s u) : DmaStepped d s (if c then t else u) := by
  split
  · exact ht
  · exact hu

theorem dmaM0_stepped : DmaStepped d s (dmaM0 d s) := by
  cases h : d.lengthsMatch s with
  | false => exact dmaM0_unequal h ▸ .fails h
  | true => exact dmaM0_equal h ▸ .ite (.completes rfl) (.goes _)

theorem setWordWidth_stepped {cont : State → State} (h : DmaStepped d s (cont s))
    (wrap : WidthLabel → Label) (ret : Label) (w : WidthLabel) :
    DmaStepped d s (setWordWidth wrap ret cont w s) := by
  cases w with
  | w0 =>
    refine .ite h ?_
    unfold widthStart
    split <;> exact .goes _
  | _ => exact .goes _

theorem dmaStep_stepped (d : DmaSpec) (l : DmaLabel) (s : State) :
    DmaStepped d s (dmaStep d l s) := by
  have h5 : DmaStepped d s (dmaM5 d s) := .ite (.goes _) (.goes _)
  have h4 : DmaStepped d s (dmaM4 d s) := .ite (.goes _) h5
  cases l with
  | m0 => exact dmaM0_stepped
  | m1 w => exact setWordWidth_stepped (cont := dmaM2) (.goes _) _ _ w
  | m3 k =>
    cases k with
    | dr0 => exact .ite (.ite h4 (.goes _)) h4
    | dr1 => exact .ite (.goes _) h4
  | m4 => exact h4
  | m5 => exact h5
  | m9 => exact .ite (.goes _) (.goes _)
  | m11 => exact .ite (.goes _) .waits
  | m12 f => cases f <;> exact .goes _
  | m13 => exact .completes rfl
  | _ => exact .goes _

/-- A DMA command has the engine's labels only. -/
theorem label_of_dma {l : Label} (hi : isDma i = true) (h : progOf i l s = some t) :
    ∃ k, l = .dma k := by
  cases i with
  | dmaWrite | dmaRead | dmaXfer | dmaXferIp => cases l <;> cases h; exact ⟨_, rfl⟩
  | _ => cases hi

end

/-- Settles O38: of the four ways a step of the engine goes on (`dmaStep_stepped`) two end the
command. -/
theorem dmaReportsNoPeripheralError : Obligations.DmaReportsNoPeripheralError := by
  unfold Obligations.DmaReportsNoPeripheralError
  intro s t i hi hrun h hend
  obtain ⟨d, hd⟩ := runsDma hi
  obtain ⟨l, hat, hp⟩ := (exec_cases h).resolve_right fun hn => hn.1 hrun
  obtain ⟨-, hmpc, hlatch⟩ := at_iff.1 hat
  obtain ⟨k, rfl⟩ := label_of_dma hi hp
  rw [hd.prog, Option.some.injEq] at hp
  cases hp ▸ dmaStep_stepped d k s with
  | goes l => cases hend
  | waits => rw [hmpc] at hend; cases hend
  | completes hk =>
    rw [complete_eq_endedWith (hk ▸ hlatch) (isDma_ne_deinit hi)]
    exact .inl ⟨rfl, rfl⟩
  | fails hm => exact .inr ⟨rfl, rfl, hd.lengths s hm⟩

end Sys2Proof.Machine
end

section
/-! SUPPORT. ABORT, whole (R216), and the turns of the DMA channels: the elements they move and the
order of their completions (R34, R76, R211, R217). -/

namespace Sys2Proof.Machine

/-! ## ABORT -/

/-- The state after A2 to A4. -/
def State.aborted (s : State) : State :=
  ((s.fieldWrite [.en 0]).fieldWrite [.txdmaen 0, .rxdmaen 0]).complete .aborted

/-- The state after A0 and A1, which halt the channels named. -/
def State.halted (s : State) (tx rx : Bool) : State :=
  { s with
    txch := if tx then none else s.txch
    rxch := if rx then none else s.rxch
    journal := s.journal ++ ((if tx then [Event.dh .tx] else [])
      ++ (if rx then [Event.dh .rx] else [])).map .event }

theorem abortA2_ends : Ends .abort abortA2 State.aborted := by
  have h4 : Ends .abort (·.complete .aborted) (·.complete .aborted) := .last _ fun _ _ => rfl
  have h3 := h4.after (·.fieldWrite [.txdmaen 0, .rxdmaen 0]) (.abort .a4)
    (fun _ _ => ⟨rfl, rfl, rfl⟩) fun _ => rfl
  exact h3.after (·.fieldWrite [.en 0]) (.abort .a3) (fun _ _ => ⟨rfl, rfl, rfl⟩) fun _ => rfl

theorem abortA1_ends : Ends .abort abortA1
    (fun s => (s.halted false (s.join.rxsub && !s.join.rxdone)).aborted) := by
  have hhalt := abortA2_ends.after (·.dmaHalt .rx) (.abort .a2)
    (fun _ _ => ⟨rfl, rfl, rfl⟩) fun _ => rfl
  refine (hhalt.ite abortA2_ends (fun s => (s.join.rxsub && !s.join.rxdone) = true)
    fun _ _ => .rfl).congr fun s => ?_
  cases s.join.rxsub && !s.join.rxdone
  · simp [State.halted]
  · rfl

theorem abortA0_ends : Ends .abort abortA0 (fun s =>
    (s.halted (s.join.txsub && !s.join.txdone) (s.join.rxsub && !s.join.rxdone)).aborted) := by
  have hhalt := abortA1_ends.after (·.dmaHalt .tx) (.abort .a1)
    (fun _ _ => ⟨rfl, rfl, rfl⟩) fun _ => rfl
  refine (hhalt.ite abortA1_ends (fun s => (s.join.txsub && !s.join.txdone) = true)
    fun _ _ => .rfl).congr fun s => ?_
  cases s.join.txsub && !s.join.txdone
  · rfl
  · simp [State.halted]

theorem aborted_trace (s : State) :
    s.aborted.trace = s.trace ++ [Event.fw [.en 0], Event.fw [.txdmaen 0, .rxdmaen 0]] :=
  trace_of_journal (List.append_assoc ..)

/-- Settles O39: A0 to A4 (`abortA0_ends`), from the attempt on. -/
theorem abortHaltsUnfinishedChannels : Obligations.AbortHaltsUnfinishedChannels := by
  unfold Obligations.AbortHaltsUnfinishedChannels
  intro s hr haltTx haltRx
  obtain ⟨k, hk⟩ := abortA0_ends.of_ready hr rfl
  have hhalted : ((s.accept .abort).halted haltTx haltRx).trace = s.trace
      ++ ((if haltTx then [Event.dh .tx] else []) ++ (if haltRx then [Event.dh .rx] else [])) :=
    trace_of_journal rfl
  refine ⟨k, _, hk, rfl, rfl, rfl, ?_, rfl, rfl, rfl, rfl, rfl, rfl, rfl, rfl, rfl⟩
  rw [aborted_trace]
  exact congrArg (· ++ _) (hhalted.trans (List.append_assoc ..).symm)

/-! ## Moves -/

section
variable {s : State} {ch : Channel} {f : Flight} {a : Word} {k : Nat}

/-- A receive channel stores the next received value in its element (R204, R211). -/
theorem dmaMove_receives (hf : s.flight ch = some f) (ha : f.desc.mem = .addr a)
    (hk : k < f.desc.count.toNat) (hnew : k ∉ f.moved) (hdir : f.desc.dir = .p2m) :
    s.dmaMove ch k = { (s.setFlight ch (some (f.mark k))).store
        ⟨f.elem a k, f.desc.esize, s.comingData f.desc.esize, false⟩ with
      env := s.env.afterData }.record (.dmaMove ch k (s.comingData f.desc.esize)) := by
  simp only [State.dmaMove, hf, ha, if_pos (And.intro hk hnew), hdir]

/-- A transmit channel reads its element (R206, R211). -/
theorem dmaMove_sends (hf : s.flight ch = some f) (ha : f.desc.mem = .addr a)
    (hk : k < f.desc.count.toNat) (hnew : k ∉ f.moved) (hdir : f.desc.dir = .m2p) :
    s.dmaMove ch k = (s.setFlight ch (some (f.mark k))).record
      (.dmaMove ch k (s.loaded (f.elem a k) f.desc.esize)) := by
  simp only [State.dmaMove, hf, ha, if_pos (And.intro hk hnew), hdir]

/-- An element already moved, an element beyond the count, and a channel that is idle or has no memory
side make no move. -/
theorem dmaMove_ignored (h : ∀ f, s.flight ch = some f →
      k ∈ f.moved ∨ f.desc.count.toNat ≤ k ∨ ∃ v, f.desc.mem = .const v) :
    s.dmaMove ch k = s := by
  unfold State.dmaMove
  split
  · rfl
  · next f hf =>
    split
    · rfl
    · next a ha =>
      refine if_neg fun ⟨hlt, hnew⟩ => ?_
      rcases h f hf with hmem | hle | ⟨v, hv⟩
      · exact hnew hmem
      · omega
      · rw [ha] at hv
        cases hv

end

/-- Settles O41: a move turn is `State.dmaMove`, which receives, sends or is ignored. -/
theorem dmaMovesElements : Obligations.DmaMovesElements := by
  unfold Obligations.DmaMovesElements
  intro s ts k
  have hstep {ch : Channel} {t : State} (hts : s.env.agenda = .dmaMove ch k :: ts)
      (ht : State.dmaMove { s with env := { s.env with agenda := ts } } ch k = t) :
      step s = .next t := (step_of_agenda hts).trans (congrArg _ ht)
  refine ⟨fun f a ha hk hnew => ?_, fun c hc hnone => ?_⟩
  · rw [← elemAddr_ofNat]
    exact ⟨fun hts hf hdir => hstep hts (dmaMove_receives (ch := .rx) hf ha hk hnew hdir),
      fun hts hf hdir => hstep hts (dmaMove_sends (ch := .tx) hf ha hk hnew hdir)⟩
  · rcases hc with ⟨hts, rfl⟩ | ⟨hts, rfl⟩
    · exact hstep hts (dmaMove_ignored (ch := .rx) hnone)
    · exact hstep hts (dmaMove_ignored (ch := .tx) hnone)

/-! ## The order of the completions -/

/-- The channel has moved all its elements and may signal completion (R211). -/
def State.finished (s : State) (ch : Channel) : Prop :=
  ∃ f, s.flight ch = some f ∧ f.moved.length = f.desc.moves

theorem dmaDone_finished {s : State} {ch : Channel} (h : s.finished ch) : s.dmaDone ch =
    { s.setFlight ch none with join := s.join.complete ch }.record (.completion ch) := by
  obtain ⟨f, hf, hm⟩ := h
  exact dmaDone_moved hf hm

theorem dmaDone_unfinished {s : State} {ch : Channel} (h : ¬s.finished ch) : s.dmaDone ch = s := by
  unfold State.dmaDone
  split
  · rfl
  · next f hf => exact if_neg fun hm => h ⟨f, hf, hm⟩

/-- A completion does not depend on the schedule. -/
theorem dmaDone_env (s : State) (e : Env) (ch : Channel) :
    State.dmaDone { s with env := e } ch = { s.dmaDone ch with env := e } := by
  by_cases h : s.finished ch
  · rw [dmaDone_finished h, dmaDone_finished (s := { s with env := e }) (by cases ch <;> exact h)]
    cases ch <;> rfl
  · rw [dmaDone_unfinished h, dmaDone_unfinished (s := { s with env := e }) (by cases ch <;> exact h)]

theorem dmaDone_trace (s : State) (ch : Channel) : (s.dmaDone ch).trace = s.trace := by
  by_cases h : s.finished ch
  · rw [dmaDone_finished h]
    cases ch <;> simp [State.trace, State.setFlight]
  · rw [dmaDone_unfinished h]

/-- The transmit channel's completion leaves the receive channel's transfer as it is, -/
theorem finished_rx_dmaDone_tx (s : State) : (s.dmaDone .tx).finished .rx ↔ s.finished .rx := by
  by_cases h : s.finished .tx
  · rw [dmaDone_finished h]
    exact .rfl
  · rw [dmaDone_unfinished h]

/-- and the other way round. -/
theorem finished_tx_dmaDone_rx (s : State) : (s.dmaDone .rx).finished .tx ↔ s.finished .tx := by
  by_cases h : s.finished .rx
  · rw [dmaDone_finished h]
    exact .rfl
  · rw [dmaDone_unfinished h]

/-- The two completions commute but for the order in which the journal lists them (R217). -/
theorem dmaDone_comm (s : State) : (s.dmaDone .tx).dmaDone .rx
    = { (s.dmaDone .rx).dmaDone .tx with journal := ((s.dmaDone .tx).dmaDone .rx).journal } := by
  have hrx' := finished_rx_dmaDone_tx s
  have htx' := finished_tx_dmaDone_rx s
  by_cases hrx : s.finished .rx
  · by_cases htx : s.finished .tx
    · rw [dmaDone_finished (hrx'.2 hrx), dmaDone_finished (htx'.2 htx), dmaDone_finished hrx,
        dmaDone_finished htx]
      rfl
    · rw [dmaDone_unfinished (mt htx'.1 htx), dmaDone_unfinished htx]
  · rw [dmaDone_unfinished (mt hrx'.1 hrx), dmaDone_unfinished hrx]

/-- A completion turn at the head of the agenda. -/
theorem step_dmaDone (s : State) (e : Env) (ch : Channel) (ts : List Turn) :
    step { s with env := { e with agenda := .dmaDone ch :: ts } }
      = .next { s.dmaDone ch with env := { e with agenda := ts } } :=
  (step_of_agenda rfl).trans (congrArg _ (dmaDone_env s _ ch))

/-- Settles O42: the turns are the two completions (`step_dmaDone`), which commute (`dmaDone_comm`)
and record no event (`dmaDone_trace`). -/
theorem joinOrderDoesNotMatter : Obligations.JoinOrderDoesNotMatter := by
  unfold Obligations.JoinOrderDoesNotMatter
  intro s ts before
  exact ⟨_, _, _, _, step_dmaDone s s.env .tx _, step_dmaDone (s.dmaDone .tx) s.env .rx ts,
    step_dmaDone s s.env .rx _, step_dmaDone (s.dmaDone .rx) s.env .tx ts,
    congrArg (fun u => { u with env := { s.env with agenda := ts } }) (dmaDone_comm s),
    (dmaDone_trace _ .rx).trans (dmaDone_trace s .tx),
    (dmaDone_trace _ .tx).trans (dmaDone_trace s .rx)⟩

end Sys2Proof.Machine
end

section
/-! SUPPORT. FATAL is left only by reset (R24, R26, R255): SEQ runs no command, a host write changes
`LOST` at most, and no other agent reaches what FATAL freezes. -/

namespace Sys2Proof.Machine

/-- What FATAL freezes (R255, D31): all of the block but `LOST` and the join, and the trace. -/
structure Frozen (s t : State) : Prop where
  fsm      : t.status.fsm = s.status.fsm
  fcause   : t.status.fcause = s.status.fcause
  result   : t.status.result = s.status.result
  done     : t.status.done = s.status.done
  regs     : t.regs = s.regs
  curWidth : t.curWidth = s.curWidth
  latch    : t.latch = s.latch
  vars     : t.vars = s.vars
  ctl      : t.ctl = s.ctl
  clkOn    : t.clkOn = s.clkOn
  pins     : t.pins = s.pins
  mpc      : t.mpc = s.mpc
  trace    : t.trace = s.trace

theorem Frozen.refl (s : State) : Frozen s s :=
  ⟨rfl, rfl, rfl, rfl, rfl, rfl, rfl, rfl, rfl, rfl, rfl, rfl, rfl⟩

section
variable {s t : State}

/-- The journal's entry for another agent's step is no event of the trace (R36). -/
theorem trace_record_of_not_event {e : Entry} (he : ∀ v, e ≠ .event v) (s : State) :
    (s.record e).trace = s.trace := by
  rw [State.trace, record_journal, List.filterMap_append]
  cases e with
  | event v => exact absurd rfl (he v)
  | _ => exact List.append_nil _

theorem Frozen.record (h : Frozen s t) {e : Entry} (he : ∀ v, e ≠ .event v) :
    Frozen s (t.record e) :=
  { h with trace := (trace_record_of_not_event he t).trans h.trace }

theorem setFlight_frozen (s : State) (ch : Channel) (f : Option Flight) :
    Frozen s (s.setFlight ch f) := by
  cases ch <;> exact { Frozen.refl s with }

/-! ## The other agents, in any state -/

theorem dmaMove_frozen (s : State) (ch : Channel) (k : Nat) : Frozen s (s.dmaMove ch k) := by
  unfold State.dmaMove
  split
  · exact .refl s
  · next f _ =>
    split
    · exact .refl s
    · split
      · have hmark := setFlight_frozen s ch (some (f.mark k))
        split
        · exact hmark.record nofun
        · exact .record (by exact { hmark with }) nofun
      · exact .refl s

theorem dmaDone_frozen (s : State) (ch : Channel) : Frozen s (s.dmaDone ch) := by
  by_cases h : s.finished ch
  · rw [dmaDone_finished h]
    exact .record (by exact { setFlight_frozen s ch none with }) nofun
  · rw [dmaDone_unfinished h]
    exact .refl s

theorem pollDone_frozen (s : State) : Frozen s s.pollDone := by
  unfold State.pollDone
  split <;> exact .record (by exact { Frozen.refl s with }) nofun

theorem hostRead_frozen {off : BitVec 12} {size : Nat} (h : s.hostRead off size = .next t) :
    Frozen s t := by
  unfold State.hostRead at h
  split at h <;> cases h
  exact .record (by exact { Frozen.refl s with }) nofun

/-! ## SEQ and the host, in FATAL -/

theorem running_fatal (hf : s.status.fsm = .fatal) : s.running = none := by
  unfold State.running
  rw [hf]

/-- In FATAL the operand registers are closed, and only `LOST` can be cleared (R23, R26). -/
theorem writeReg_fatal (hf : s.status.fsm = .fatal) (g : HostReg) (v : Word) :
    ∃ b, s.writeReg g v = { s with status := { s.status with lost := b } } := by
  have hclosed : ¬operandsOpen s.status.fsm = true := by rw [hf]; nofun
  cases g with
  | status =>
    by_cases hv : v.getLsbD 4 = true
    · exact ⟨false, if_pos hv⟩
    · exact ⟨s.status.lost, if_neg hv⟩
  | bind => exact ⟨s.status.lost, if_neg (by rw [hf]; nofun)⟩
  | cfg | freq | txaddr | rxaddr | txlen | rxlen => exact ⟨s.status.lost, if_neg hclosed⟩
  | _ => exact ⟨s.status.lost, rfl⟩

/-- In FATAL a host write is recorded and changes `LOST` at most: a command is ignored (R96). -/
theorem hostWrite_fatal (hf : s.status.fsm = .fatal) {off : BitVec 12} {size : Nat} {v : Word}
    (h : s.hostWrite exec off size v = .next t) :
    ∃ b, t = { s.record (.hostWrite off v) with status := { s.status with lost := b } } := by
  rcases hostWrite_cases h with ⟨-, -, hcmd⟩ | ⟨g, rfl⟩
  · have hign : (s.record (.hostWrite off v)).ignoresWord v = true :=
      ignoresWord_iff.2 (.inr (.inl hf))
    cases (writeCmd_ignored hign).symm.trans hcmd
    exact ⟨true, rfl⟩
  · exact writeReg_fatal (s := s.record (.hostWrite off v)) hf g v

/-- In FATAL every turn but reset keeps what it freezes (R255). -/
theorem turn_fatal (hf : s.status.fsm = .fatal) {k : Turn} (hreset : k ≠ .reset)
    (h : s.turn exec k = .next t) : Frozen s t := by
  cases k with
  | seq =>
    simp only [State.turn, State.seqTurn, running_fatal hf] at h
    cases h
    exact .refl s
  | hostWrite off size v =>
    obtain ⟨b, rfl⟩ := hostWrite_fatal hf h
    exact { Frozen.record (.refl s) (e := .hostWrite off v) nofun with }
  | hostRead off size => exact hostRead_frozen h
  | hostWait => cases h; exact pollDone_frozen s
  | memWrite a size v => cases h; exact .record (by exact { Frozen.refl s with }) nofun
  | memRead a size => cases h; exact .record (by exact { Frozen.refl s with }) nofun
  | dmaMove ch n => cases h; exact dmaMove_frozen s ch n
  | dmaDone ch => cases h; exact dmaDone_frozen s ch
  | reset => exact absurd rfl hreset

end

/-- Settles O55: `turn_fatal` goes through the agents. -/
theorem fatalIsLeftOnlyByReset : Obligations.FatalIsLeftOnlyByReset := by
  unfold Obligations.FatalIsLeftOnlyByReset
  intro s t hf h hreset
  obtain ⟨hfsm, hcause, hresult, hdone, hregs, hwidth, hlatch, hvars, hctl, hclk, hpins, hmpc,
    htrace⟩ := turn_fatal (s := s.popTurn) hf hreset h
  exact ⟨hfsm.trans hf, hcause, hresult, hdone, hregs, hwidth, hlatch, hvars, hctl, hclk, hpins,
    hmpc, htrace⟩

end Sys2Proof.Machine
end

section
/-! SUPPORT. What a reset turn leaves (R280, R281): `State.systemReset`, read by read. -/

namespace Sys2Proof.Machine

/-- Every register reads 0 after reset, whatever the state and the parameters (R48). -/
theorem systemReset_readReg (s : State) (g : HostReg) : s.systemReset.readReg g = 0 := by
  have hstatus : statusWord ⟨.uninit, false, false, .ok, .none⟩ ⟨false, false, false, false⟩ = 0 := by
    decide
  cases g with
  | status => exact hstatus
  | _ => rfl

/-- So does every offset, a reserved one anyway (R21). -/
theorem systemReset_readOffset (s : State) (off : BitVec 12) : s.systemReset.readOffset off = 0 := by
  unfold State.readOffset
  split
  · exact systemReset_readReg s _
  · rfl

/-- A reset turn on the agenda is the step. -/
theorem step_reset {s : State} {ts : List Turn} (h : s.env.agenda = .reset :: ts) :
    step s = .next ({ s with env := { s.env with agenda := ts } } : State).systemReset :=
  step_of_agenda h

/-- Settles O56: the step is `State.systemReset` (`step_reset`), whose fields are those of
`State.resetWith` but for the memory, its view, the control image and the environment; the registers
read 0 by `systemReset_readOffset`. -/
theorem resetTurn : Obligations.ResetTurn := by
  unfold Obligations.ResetTurn
  intro s ts hts
  exact ⟨_, step_reset hts, rfl, rfl, rfl, rfl, rfl, systemReset_readOffset _, rfl, rfl, rfl, rfl, rfl,
    rfl, rfl, rfl, rfl, rfl⟩

end Sys2Proof.Machine
end
